-- ==== Sys2Proof/Word.lean ====
section
/-!
DEFINITION. The words of OSJ-LPE: bytes, frames, and the plain arithmetic of spec/00_scope.md R13 to R15.
Values whose width is a build parameter (T_W, KA_W, LEN_W, DBN_W) are natural numbers, as R13 and R15 read them;
values whose width the spec fixes are bit vectors.
-/

namespace Sys2Proof

/-- One byte of a frame (R81). -/
abbrev Byte := BitVec 8

/-- A 7-byte frame held as a 56-bit value (R17): byte 0 in bits 55 to 48, byte 6 in bits 7 to 0. -/
abbrev Frame := BitVec 56

/-- `trunc_N(v)` of R14: `v mod 2^N`. -/
def trunc (n v : Nat) : Nat := v % 2 ^ n

/-- `a - b mod 2^N` of R15: `trunc_N(a - b + 2^N)`, written with the sum first. -/
def subMod (n a b : Nat) : Nat := trunc n (a + 2 ^ n - b)

/-- `absdiff` of R15 on two 10-bit values, exact. -/
def absdiff (a b : BitVec 10) : Nat :=
  if b.toNat ≤ a.toNat then a.toNat - b.toNat else b.toNat - a.toNat

end Sys2Proof
end

