-- ==== Sys2Proof/Config.lean ====
section
/-!
DEFINITION. What a build of the block fixes: the parameters of spec/00_scope.md R5 to R10, the constants of R11,
and the one value the spec leaves open, DEBOUNCE_CYCLES.
-/

namespace Sys2Proof

/-- The parameters "fixed when the block is built" (00_scope.md section 3). A state carries its build's
parameters and no step changes them (log 1). -/
structure Params where
  /-- `KA_PREAMBLE` (R5), the keepalive preamble byte. -/
  kaPreamble : Byte
  /-- `DEBOUNCE_CYCLES` (R6), clock cycles between the two reads of a pressed button. -/
  debounceCycles : Nat
  /-- `T_W` (R8), the width of the time base. -/
  tW : Nat
  /-- `KA_W` (R9), the width of the keepalive counter. -/
  kaW : Nat
  /-- `LEN_W` (R10), the width of the received length. -/
  lenW : Nat
  deriving DecidableEq, Repr

/-- `DBN_W` (R7): `max(1, ceil(log2(DEBOUNCE_CYCLES + 1)))`, the least width that holds DEBOUNCE_CYCLES. -/
def Params.dbnW (p : Params) : Nat :=
  if p.debounceCycles = 0 then 1 else Nat.log2 p.debounceCycles + 1

/-- FREE VALUE (log 2). DEBOUNCE_CYCLES of the build that State.reset describes, less one. The spec leaves
DEBOUNCE_CYCLES open ("the model takes it as an argument", R6, D32); nothing can be proved of this constant. -/
opaque Config.debounceExtra : Nat

/-- The open DEBOUNCE_CYCLES of State.reset's build: any number of cycles from 1 up (R6). -/
def Config.debounceCycles : Nat := Config.debounceExtra + 1

/-- The build State.reset describes: the spec's defaults (R5, R8, R9, R10; D31) and an open DEBOUNCE_CYCLES (log 3). -/
def Config.params : Params where
  kaPreamble := 0xE0#8
  debounceCycles := Config.debounceCycles
  tW := 32
  kaW := 16
  lenW := 8

/-- `FRAME_LEN` (R11, R114). -/
def Config.frameLen : Nat := 7

/-- `ST_PREAMBLE` (R11), the preamble of a Status frame. -/
def Config.stPreamble : Byte := 0xAA#8

end Sys2Proof
end

