-- ==== Sys2Proof/Syntax.lean ====
section
/-!
DEFINITION. The instructions of OSJ-LPE: one constructor for each row of spec/opcode_table.json.
Twelve rows are commands on `op_i` (spec/30_encoding.md R100, R101); three are wire frames that the frame decoder
reads (R105, R106, R110). A constructor's fields are the bits its row leaves free, less those that the other bits
determine (a frame's checksum, a Keepalive's preamble).
-/

namespace Sys2Proof

/-- One operation of the command port, or one frame on the receive port. -/
inductive Instr where
  /-- NOP, code 0x0 (R103). -/
  | nop
  /-- SAMPLE_BUTTONS, code 0x1 (R141). -/
  | sampleButtons
  /-- HAS_CHANGED, code 0x2 (R147). -/
  | hasChanged
  /-- ENC_STATUS, code 0x3 (R174). -/
  | encStatus
  /-- ENC_KEEPALIVE, code 0x4 (R176). -/
  | encKeepalive
  /-- DECODE, code 0x5 (R179). -/
  | decode
  /-- CHECKSUM, code 0x6 (R172). -/
  | checksum
  /-- TX_TICK, code 0x7 (R200). -/
  | txTick
  /-- IS_ALIVE, code 0x8 (R224). -/
  | isAlive
  /-- RESERVED, code 0x9 (R103). -/
  | reserved9
  /-- RESERVED, codes 0xA and 0xB (R103): bit 0 of the code is free. -/
  | reservedAB (lo : BitVec 1)
  /-- RESERVED, codes 0xC to 0xF (R103): bits 1 and 0 of the code are free. -/
  | reservedCF (lo : BitVec 2)
  /-- FRAME_STATUS (R105): byte 1, bytes 2 and 3, bytes 4 and 5, all bits kept (R109, R111). -/
  | frameStatus (keys : BitVec 8) (x : BitVec 16) (y : BitVec 16)
  /-- FRAME_KEEPALIVE (R106): bytes 1 to 5, which the decoder does not check (R112). -/
  | frameKeepalive (payload : BitVec 40)
  /-- FRAME_UNKNOWN (R110): byte 0, neither 0xAA nor KA_PREAMBLE, and bytes 1 to 5. -/
  | frameUnknown (preamble : BitVec 8) (payload : BitVec 40)
  deriving DecidableEq, Repr

/-- What an encoding of an instruction is on this hardware: a 4-bit code on `op_i` (R100), or a frame of a
received length on `rx_len_i` and `rx_frame_i` (R37). -/
inductive Encoded where
  | command (op : BitVec 4)
  | wire (len : Nat) (f : Frame)
  deriving DecidableEq, Repr

end Sys2Proof
end

