-- ==== Sys2Proof/WellFormed.lean ====
section
/-!
DEFINITION. Which instructions are well formed, and which builds are legal (spec/00_scope.md R5, R6, R8 to R10).
-/

namespace Sys2Proof

/-- An instruction is well formed for a build with keepalive preamble `kaPre`: FRAME_UNKNOWN's preamble is a byte
"other than 0xAA and KA_PREAMBLE" (R110). Every value of every other field is an encoding. -/
def Instr.wellFormed (kaPre : Byte) : Instr → Bool
  | .nop => true
  | .sampleButtons => true
  | .hasChanged => true
  | .encStatus => true
  | .encKeepalive => true
  | .decode => true
  | .checksum => true
  | .txTick => true
  | .isAlive => true
  | .reserved9 => true
  | .reservedAB _ => true
  | .reservedCF _ => true
  | .frameStatus _ _ _ => true
  | .frameKeepalive _ => true
  | .frameUnknown pre _ => pre != Config.stPreamble && pre != kaPre

/-- The preamble check of R5: a build with KA_PREAMBLE = 0xAA "is refused at elaboration". -/
def Params.preambleOk (p : Params) : Bool := p.kaPreamble != Config.stPreamble

/-- The debounce check of R6: "the value 0 is refused at elaboration". -/
def Params.debounceOk (p : Params) : Bool := decide (1 ≤ p.debounceCycles)

/-- The legal ranges of R8, R9 and R10. -/
def Params.widthsOk (p : Params) : Bool :=
  decide (2 ≤ p.tW) && decide (p.tW ≤ 64) && decide (1 ≤ p.kaW) && decide (p.kaW ≤ 32) &&
    decide (3 ≤ p.lenW) && decide (p.lenW ≤ 16)

/-- A legal build. -/
def Params.legal (p : Params) : Bool := p.preambleOk && p.debounceOk && p.widthsOk

end Sys2Proof
end

