-- ==== Sys2Proof/Decode.lean ====
section
/-!
DEFINITION. The two decoders of OSJ-LPE and their encoder: the command decoder (spec/30_encoding.md R101, R116), the
frame decoder (spec/41_frame_codec.md R177), and the byte and checksum functions both share with the encoder.
-/

namespace Sys2Proof

/-! ### Bytes of a frame and the checksum -/

/-- `byte(F, k) = F[55 - 8k : 48 - 8k]` (R17), for k from 0 to 6. -/
def byteOf (f : Frame) (k : Nat) : Byte := f.extractLsb' (48 - 8 * k) 8

/-- `frame(b0, …, b6)` (R17): byte 0 uppermost. -/
def packFrame (b0 b1 b2 b3 b4 b5 b6 : Byte) : Frame := b0 ++ b1 ++ b2 ++ b3 ++ b4 ++ b5 ++ b6

/-- `xorfold` (R16): 0x00 for the empty list. -/
def xorfold (bs : List Byte) : Byte := bs.foldr (· ^^^ ·) 0#8

/-- The first `k` bytes of a frame, in wire order. -/
def firstBytes (f : Frame) (k : Nat) : List Byte := (List.range k).map (byteOf f)

/-- `cks6(F)` (R170): the XOR of bytes 0 to 5. -/
def cks6 (f : Frame) : Byte := xorfold (firstBytes f 6)

/-- A frame from its first six bytes, closed by the checksum of R107. -/
def sealFrame (b0 b1 b2 b3 b4 b5 : Byte) : Frame :=
  packFrame b0 b1 b2 b3 b4 b5 (xorfold [b0, b1, b2, b3, b4, b5])

/-- `high(v)` of a 10-bit axis value (R108). -/
def axisHigh (v : BitVec 10) : Byte := (v.extractLsb' 8 2).setWidth 8

/-- `low(v)` of a 10-bit axis value (R108). -/
def axisLow (v : BitVec 10) : Byte := v.extractLsb' 0 8

/-- The axis join of R109: `{high byte, low byte}`, all 16 bits kept. -/
def axisJoin (hi lo : Byte) : BitVec 16 := hi ++ lo

/-- The upper byte of a 16-bit field, the one at the lower offset (R82, R84). -/
def upperByte (v : BitVec 16) : Byte := v.extractLsb' 8 8

/-- The lower byte of a 16-bit field. -/
def lowerByte (v : BitVec 16) : Byte := v.extractLsb' 0 8

/-- Byte `k` (0 to 4) of five payload bytes held with the first in the upper bits. -/
def payloadByte (p : BitVec 40) (k : Nat) : Byte := p.extractLsb' (32 - 8 * k) 8

/-- Bytes 1 to 5 of a frame, the first in the upper bits. -/
def payloadOf (f : Frame) : BitVec 40 := f.extractLsb' 8 40

/-! ### The encoders of frames -/

/-- `encS` (R173): the Status frame of a keys mask and two axis values. -/
def encS (keys : BitVec 5) (x y : BitVec 10) : Frame :=
  sealFrame Config.stPreamble (keys.setWidth 8) (axisHigh x) (axisLow x) (axisHigh y) (axisLow y)

/-- `encK` (R175): the Keepalive frame of a build with keepalive preamble `kaPre`. -/
def encK (kaPre : Byte) : Frame := sealFrame kaPre 0xAA#8 0x55#8 0xAA#8 0x55#8 0xAA#8

/-- A frame with the given first byte and five payload bytes, closed by its checksum. -/
def sealPayload (b0 : Byte) (p : BitVec 40) : Frame :=
  sealFrame b0 (payloadByte p 0) (payloadByte p 1) (payloadByte p 2) (payloadByte p 3) (payloadByte p 4)

/-! ### The frame decoder -/

/-- The five results of `dec` (R177), with the fields a Status frame carries. -/
inductive FrameClass where
  | lengthError
  | checksumError
  | status (keys : BitVec 8) (x : BitVec 16) (y : BitVec 16)
  | keepalive
  | unknownFrameType
  deriving DecidableEq, Repr

/-- `dec(len, F)` (R177): length, then checksum, then preamble; the first check that fails names the result. -/
def dec (kaPre : Byte) (len : Nat) (f : Frame) : FrameClass :=
  if len ≠ Config.frameLen then .lengthError
  else if cks6 f ≠ byteOf f 6 then .checksumError
  else if byteOf f 0 = Config.stPreamble then
    .status (byteOf f 1) (axisJoin (byteOf f 2) (byteOf f 3)) (axisJoin (byteOf f 4) (byteOf f 5))
  else if byteOf f 0 = kaPre then .keepalive
  else .unknownFrameType

/-- Why the frame decoder reads no frame: the two errors of R240 that no frame row of the table stands for. -/
inductive DecodeError where
  /-- LENGTH_ERROR: the received length is not 7. -/
  | lengthError
  /-- CHECKSUM_ERROR: length 7, and byte 6 is not the XOR of bytes 0 to 5. -/
  | checksumError
  deriving DecidableEq, Repr

/-- The frame row that a received frame is (R105, R106, R110), or the error that rejects it. -/
def decodeFrame (kaPre : Byte) (len : Nat) (f : Frame) : Except DecodeError Instr :=
  match dec kaPre len f with
  | .lengthError => .error .lengthError
  | .checksumError => .error .checksumError
  | .status keys x y => .ok (.frameStatus keys x y)
  | .keepalive => .ok (.frameKeepalive (payloadOf f))
  | .unknownFrameType => .ok (.frameUnknown (byteOf f 0) (payloadOf f))

/-! ### The command decoder -/

/-- A row of the command table (R101): the codes `op` with `op &&& mask = pattern`. -/
structure CommandRow where
  mnemonic : String
  mask : BitVec 4
  pattern : BitVec 4
  deriving DecidableEq, Repr

/-- The command rows of spec/opcode_table.json, in its order. -/
def commandRows : List CommandRow :=
  [⟨"NOP", 0xF#4, 0x0#4⟩, ⟨"SAMPLE_BUTTONS", 0xF#4, 0x1#4⟩, ⟨"HAS_CHANGED", 0xF#4, 0x2#4⟩,
   ⟨"ENC_STATUS", 0xF#4, 0x3#4⟩, ⟨"ENC_KEEPALIVE", 0xF#4, 0x4#4⟩, ⟨"DECODE", 0xF#4, 0x5#4⟩,
   ⟨"CHECKSUM", 0xF#4, 0x6#4⟩, ⟨"TX_TICK", 0xF#4, 0x7#4⟩, ⟨"IS_ALIVE", 0xF#4, 0x8#4⟩,
   ⟨"RESERVED", 0xF#4, 0x9#4⟩, ⟨"RESERVED", 0xE#4, 0xA#4⟩, ⟨"RESERVED", 0xC#4, 0xC#4⟩]

/-- A code is one of a row's codes. -/
def CommandRow.covers (r : CommandRow) (op : BitVec 4) : Bool := (op &&& r.mask) == r.pattern

/-- The command decoder (R101, R116): total, every code selects exactly one row. -/
def decodeCommand (op : BitVec 4) : Instr :=
  match op.toNat with
  | 0x0 => .nop
  | 0x1 => .sampleButtons
  | 0x2 => .hasChanged
  | 0x3 => .encStatus
  | 0x4 => .encKeepalive
  | 0x5 => .decode
  | 0x6 => .checksum
  | 0x7 => .txTick
  | 0x8 => .isAlive
  | 0x9 => .reserved9
  | 0xA => .reservedAB (op.extractLsb' 0 1)
  | 0xB => .reservedAB (op.extractLsb' 0 1)
  | _ => .reservedCF (op.extractLsb' 0 2)

/-- The mnemonic of an instruction, as spec/opcode_table.json spells it. -/
def Instr.mnemonic : Instr → String
  | .nop => "NOP"
  | .sampleButtons => "SAMPLE_BUTTONS"
  | .hasChanged => "HAS_CHANGED"
  | .encStatus => "ENC_STATUS"
  | .encKeepalive => "ENC_KEEPALIVE"
  | .decode => "DECODE"
  | .checksum => "CHECKSUM"
  | .txTick => "TX_TICK"
  | .isAlive => "IS_ALIVE"
  | .reserved9 => "RESERVED"
  | .reservedAB _ => "RESERVED"
  | .reservedCF _ => "RESERVED"
  | .frameStatus _ _ _ => "FRAME_STATUS"
  | .frameKeepalive _ => "FRAME_KEEPALIVE"
  | .frameUnknown _ _ => "FRAME_UNKNOWN"

/-! ### Both decoders as one, and the encoder -/

/-- What an encoding decodes to on a build with keepalive preamble `kaPre`. -/
def decode (kaPre : Byte) : Encoded → Except DecodeError Instr
  | .command op => .ok (decodeCommand op)
  | .wire len f => decodeFrame kaPre len f

/-- The encoding of an instruction on a build with keepalive preamble `kaPre`: its code (R101), or its frame with
the checksum of R107 and length 7 (R105, R106, R110). -/
def encode (kaPre : Byte) : Instr → Encoded
  | .nop => .command 0x0#4
  | .sampleButtons => .command 0x1#4
  | .hasChanged => .command 0x2#4
  | .encStatus => .command 0x3#4
  | .encKeepalive => .command 0x4#4
  | .decode => .command 0x5#4
  | .checksum => .command 0x6#4
  | .txTick => .command 0x7#4
  | .isAlive => .command 0x8#4
  | .reserved9 => .command 0x9#4
  | .reservedAB lo => .command (0b101#3 ++ lo)
  | .reservedCF lo => .command (0b11#2 ++ lo)
  | .frameStatus keys x y =>
    .wire Config.frameLen
      (sealFrame Config.stPreamble keys (upperByte x) (lowerByte x) (upperByte y) (lowerByte y))
  | .frameKeepalive p => .wire Config.frameLen (sealPayload kaPre p)
  | .frameUnknown pre p => .wire Config.frameLen (sealPayload pre p)

/-- The instruction the decoder of the default build reads from a row's bits. A command row has 4 bits, asked for
in a whole byte: the port `op_i` carries only bits 3 to 0 (log 8). A frame row has 56 bits, numbered as
spec/opcode_table.json numbers them: byte 0 in bits 55 to 48 (R17, log 7). -/
def decodeTableWord (nbits w : Nat) : Option Instr :=
  if nbits = 4 ∨ nbits = 8 then some (decodeCommand (BitVec.ofNat 4 w))
  else if nbits = 56 then
    match decodeFrame Config.params.kaPreamble Config.frameLen (BitVec.ofNat 56 w) with
    | .ok i => some i
    | .error _ => none
  else none

end Sys2Proof
end

