-- ==== Sys2Proof/Machine/State.lean ====
section
/-!
DEFINITION. The state of OSJ-LPE as plain data: every register of spec/10_state.md R59 and R60, and the model's own
fields for the build's parameters and the input ports; why a step stops; and the state after reset.
-/

namespace Sys2Proof.Machine

/-! ### Types of the registers -/

/-- `SEQ` (R46), the phase of the command sequencer. -/
inductive SeqPhase where
  /-- 0 = IDLE: no operation in flight. -/
  | idle
  /-- 1 = SB_WAIT: SAMPLE_BUTTONS waiting out the debounce interval. -/
  | sbWait
  /-- 2 = TT_WAIT: TX_TICK waiting out the debounce interval. -/
  | ttWait
  /-- 3 = TT_KA: TX_TICK has sent its Status frame and still owes a Keepalive frame. -/
  | ttKa
  deriving DecidableEq, Repr

/-- `DBN_PH[i]` (R47). -/
inductive DbnPhase where
  /-- 0 = IDLE. -/
  | idle
  /-- 1 = WAIT: a pressed button waiting for its second read. -/
  | wait
  deriving DecidableEq, Repr

/-- The debounce state of one button (R47). -/
@[ext]
structure Button where
  /-- `DBN_LVL[i]`: the raw level last read; false (0) means pressed. -/
  level : Bool
  /-- `DBN_PH[i]`. -/
  phase : DbnPhase
  /-- `DBN_CNT[i]`, DBN_W bits: cycles left until the second read. -/
  count : Nat
  deriving DecidableEq, Repr

/-- One value for each of the five buttons (R11, R35): K1, K2, K3, K4, KZ at bits 0 to 4. -/
@[ext]
structure PerButton (α : Type) where
  k1 : α
  k2 : α
  k3 : α
  k4 : α
  kz : α
  deriving DecidableEq, Repr

/-- `DEC_CODE` (R178). Codes 6 and 7 are "never produced" and have no constructor (log 16). -/
inductive DecCode where
  /-- 0 = NONE: no DECODE since reset. -/
  | none
  /-- 1 = STATUS. -/
  | status
  /-- 2 = KEEPALIVE. -/
  | keepalive
  /-- 3 = LENGTH_ERROR. -/
  | lengthError
  /-- 4 = CHECKSUM_ERROR. -/
  | checksumError
  /-- 5 = UNKNOWN_FRAME_TYPE. -/
  | unknownFrameType
  deriving DecidableEq, Repr

/-! ### Input ports -/

/-- The values of the input ports during one clock cycle, sampled at the edge that ends it (R18). Ports whose width
is a build parameter hold a number, of which the block reads the port's width (log 13). -/
structure Inputs where
  /-- `rst_i` (R32). -/
  rst : Bool
  /-- `op_valid_i` (R33). -/
  opValid : Bool
  /-- `op_i[3:0]` (R33). -/
  op : BitVec 4
  /-- `arg_keys_i[4:0]` (R34). -/
  argKeys : BitVec 5
  /-- `arg_x_i[9:0]` (R34). -/
  argX : BitVec 10
  /-- `arg_y_i[9:0]` (R34). -/
  argY : BitVec 10
  /-- `btn_raw_i[4:0]` (R35): bit i is button i's raw level, 0 = pressed. -/
  btnRaw : BitVec 5
  /-- `axis_x_i[9:0]` (R36). -/
  axisX : BitVec 10
  /-- `axis_y_i[9:0]` (R36). -/
  axisY : BitVec 10
  /-- `rx_len_i[LEN_W-1:0]` (R37). -/
  rxLen : Nat
  /-- `rx_frame_i[55:0]` (R37). -/
  rxFrame : Frame
  /-- `now_i[T_W-1:0]` (R38). -/
  now : Nat
  /-- `cfg_thr_x_i` (R44). -/
  thrX : BitVec 10
  /-- `cfg_thr_y_i` (R44). -/
  thrY : BitVec 10
  /-- `cfg_ka_interval_i[KA_W-1:0]` (R44). -/
  kaInterval : Nat
  /-- `cfg_timeout_i[T_W-1:0]` (R44). -/
  timeout : Nat
  deriving DecidableEq, Repr

/-! ### The state -/

/-- The state record of R60, after the model's own three fields `par`, `inp` and `sched`. -/
@[ext]
structure State where
  /-- The build's parameters (R5 to R10, R60); no step changes them (log 1). -/
  par : Params
  /-- The port values the next edge samples (R18, log 4). -/
  inp : Inputs
  /-- The port values the host drives in the cycles after that, one entry a cycle (log 4). -/
  sched : List Inputs
  /-- SEQ (R46). -/
  seq : SeqPhase
  /-- DBN_LVL, DBN_PH and DBN_CNT of the five buttons (R47). -/
  dbn : PerButton Button
  /-- SAMPLED_KEYS (R48). -/
  sampledKeys : BitVec 5
  /-- CUR_VALID (R49). -/
  curValid : Bool
  /-- CUR_KEYS (R49). -/
  curKeys : BitVec 5
  /-- CUR_X (R49). -/
  curX : BitVec 10
  /-- CUR_Y (R49). -/
  curY : BitVec 10
  /-- CHANGED (R50). -/
  changed : Bool
  /-- KA_CNT, KA_W bits (R51). -/
  kaCnt : Nat
  /-- FRAME_OUT (R52). -/
  frameOut : Frame
  /-- TX_STB (R56). -/
  txStb : Bool
  /-- ILLEGAL_STB (R56). -/
  illegalStb : Bool
  /-- CKS_RESULT (R53). -/
  cksResult : Byte
  /-- DEC_CODE (R54). -/
  decCode : DecCode
  /-- DEC_KEYS (R54). -/
  decKeys : BitVec 8
  /-- DEC_X (R54). -/
  decX : BitVec 16
  /-- DEC_Y (R54). -/
  decY : BitVec 16
  /-- SEEN (R55). -/
  seen : Bool
  /-- LAST_SEEN, T_W bits (R55). -/
  lastSeen : Nat
  /-- EXPIRED (R55). -/
  expired : Bool
  /-- ALIVE_R (R55). -/
  aliveR : Bool
  deriving DecidableEq, Repr

/-! ### Why a step stops -/

/-- No fault exists on this hardware (R244: "There are no traps and no trap entry"): every error is a result code or
a strobe in a next state. Safe: nothing raises one (log 21). -/
inductive Fault where
  deriving DecidableEq, Repr

/-- Why the model has no next state. -/
inductive Refusal where
  /-- An arm of exec without a meaning. Raised by no arm of this model. Safe. -/
  | notModelled (mnemonic : String)
  /-- Raised by step alone, on a build with KA_PREAMBLE = 0xAA, which "is refused at elaboration" (R5). Safe. -/
  | kaPreambleIsStatusPreamble
  /-- Raised by step alone, on a build with DEBOUNCE_CYCLES = 0, which "is refused at elaboration" (R6). Safe. -/
  | debounceCyclesIsZero
  /-- Raised by step alone, on a build with T_W, KA_W or LEN_W outside its legal range (R8, R9, R10).
  That such a build is refused is the model's deduction (log 12). Safe. -/
  | widthOutOfRange
  deriving DecidableEq, Repr

/-! ### Reset -/

/-- A released button with no read pending, as reset leaves it (R59). -/
def Button.released : Button := ⟨true, .idle, 0⟩

/-- The same value for every button. -/
def PerButton.all {α : Type} (a : α) : PerButton α := ⟨a, a, a, a, a⟩

/-- The port values of State.reset. Ports have no reset value (R59): DESIGN CHOICE (log 5), every port 0 but
`btn_raw_i`, whose five levels 1 mean that no button is pressed (R35). -/
def Inputs.quiet : Inputs where
  rst := false
  opValid := false
  op := 0#4
  argKeys := 0#5
  argX := 0#10
  argY := 0#10
  btnRaw := 0b11111#5
  axisX := 0#10
  axisY := 0#10
  rxLen := 0
  rxFrame := 0#56
  now := 0
  thrX := 0#10
  thrY := 0#10
  kaInterval := 0
  timeout := 0

/-- The block right after a reset edge: every register at the value of R59's table, on the build of Config.params,
with quiet ports and an empty schedule (log 3, log 4, log 5). -/
def State.reset : State where
  par := Config.params
  inp := Inputs.quiet
  sched := []
  seq := .idle
  dbn := PerButton.all Button.released
  sampledKeys := 0#5
  curValid := false
  curKeys := 0#5
  curX := 0#10
  curY := 0#10
  changed := false
  kaCnt := 0
  frameOut := 0#56
  txStb := false
  illegalStb := false
  cksResult := 0#8
  decCode := .none
  decKeys := 0#8
  decX := 0#16
  decY := 0#16
  seen := false
  lastSeen := 0
  expired := false
  aliveR := false

end Sys2Proof.Machine
end

