-- ==== Sys2Proof/Machine/Operands.lean ====
section
/-!
DEFINITION. Where operands come from: the sampled ports (spec/10_state.md R32 to R38, R44), the per-button values, and
the numeric values of SEQ and DEC_CODE (R46, R178).
-/

namespace Sys2Proof.Machine

/-! ### Ports whose width is a build parameter -/

/-- `in.now_i`, T_W bits (R38). -/
def State.nowIn (s : State) : Nat := trunc s.par.tW s.inp.now

/-- `in.cfg_timeout_i`, T_W bits (R44). -/
def State.timeoutIn (s : State) : Nat := trunc s.par.tW s.inp.timeout

/-- `in.cfg_ka_interval_i`, KA_W bits (R44). -/
def State.kaIntervalIn (s : State) : Nat := trunc s.par.kaW s.inp.kaInterval

/-- `in.rx_len_i`, LEN_W bits (R37). -/
def State.rxLenIn (s : State) : Nat := trunc s.par.lenW s.inp.rxLen

/-! ### Operands that more than one rule reads -/

/-- The operation on the command port (R100, R101). -/
def State.offered (s : State) : Instr := decodeCommand s.inp.op

/-- `k = min(in.rx_len_i, 7)` of CHECKSUM (R172). -/
def State.sliceLen (s : State) : Nat := min s.rxLenIn Config.frameLen

/-- `dec(in.rx_len_i, in.rx_frame_i)` of DECODE (R179). -/
def State.received (s : State) : FrameClass := dec s.par.kaPreamble s.rxLenIn s.inp.rxFrame

/-! ### Per-button values -/

/-- The value of button i (R35: 0 = K1 to 4 = KZ). -/
def PerButton.get {α : Type} (p : PerButton α) (i : Fin 5) : α :=
  match i with
  | 0 => p.k1
  | 1 => p.k2
  | 2 => p.k3
  | 3 => p.k4
  | 4 => p.kz

/-- A value for each button, from a rule "for i in 0..4". -/
def PerButton.ofRule {α : Type} (f : Fin 5 → α) : PerButton α := ⟨f 0, f 1, f 2, f 3, f 4⟩

/-- A keys mask from one bit a button: "K1=bit0 … KZ=bit4" (R142). -/
def PerButton.keys (p : PerButton Bool) : BitVec 5 :=
  BitVec.ofBool p.kz ++ BitVec.ofBool p.k4 ++ BitVec.ofBool p.k3 ++ BitVec.ofBool p.k2 ++ BitVec.ofBool p.k1

/-- Some button satisfies `f`. -/
def PerButton.any {α : Type} (p : PerButton α) (f : α → Bool) : Bool :=
  f p.k1 || f p.k2 || f p.k3 || f p.k4 || f p.kz

/-- The raw level of button i at this edge (R35). -/
def State.rawLevel (s : State) (i : Fin 5) : Bool := s.inp.btnRaw.getLsbD i.val

/-! ### Numeric values of registers -/

/-- The 2-bit value of SEQ (R46). -/
def SeqPhase.toBits : SeqPhase → BitVec 2
  | .idle => 0#2
  | .sbWait => 1#2
  | .ttWait => 2#2
  | .ttKa => 3#2

/-- The 3-bit value of DEC_CODE (R178). -/
def DecCode.toBits : DecCode → BitVec 3
  | .none => 0#3
  | .status => 1#3
  | .keepalive => 2#3
  | .lengthError => 3#3
  | .checksumError => 4#3
  | .unknownFrameType => 5#3

/-- The result code of a decoder result (R177, R178). -/
def DecCode.ofClass : FrameClass → DecCode
  | .lengthError => .lengthError
  | .checksumError => .checksumError
  | .status _ _ _ => .status
  | .keepalive => .keepalive
  | .unknownFrameType => .unknownFrameType

end Sys2Proof.Machine
end

