-- ==== Sys2Proof/Machine/Flags.lean ====
section
/-!
DEFINITION. The conditions the block computes: the change test (spec/40_input_sampler.md R146), the keepalive counter's
test (spec/42_transmit_scheduler.md R202), the debounce conditions (R142) and the liveness comparator
(spec/43_link_supervisor.md R220, R221, R223).
-/

namespace Sys2Proof.Machine

/-- `ch` of the HC function (R146): no sample stored yet, other keys, or an axis off by more than its threshold. -/
def State.hcTest (s : State) (keys : BitVec 5) (x y : BitVec 10) : Bool :=
  !s.curValid || keys != s.curKeys || decide (s.inp.thrX.toNat < absdiff x s.curX) ||
    decide (s.inp.thrY.toNat < absdiff y s.curY)

/-- `iv = max(in.cfg_ka_interval_i, 1)` (R202). -/
def State.kaPeriod (s : State) : Nat := max s.kaIntervalIn 1

/-- `n >= iv` of KA_STEP (R202): a Keepalive is due this tick. -/
def State.kaDue (s : State) : Bool := decide (s.kaPeriod ≤ s.kaCnt + 1)

/-- `second[i]` (R142): this edge is button i's second read. -/
def Button.atSecondRead (b : Button) : Bool := b.phase == .wait && b.count == 1

/-- Button i is in WAIT and stays there (R142's `done` denies it for every button). -/
def Button.stillWaiting (b : Button) : Bool := b.phase == .wait && decide (1 < b.count)

/-- `done` (R142). -/
def State.sampleDone (s : State) : Bool := !s.dbn.any Button.stillWaiting

/-- `lvl[i]` (R142): the level the result takes. -/
def State.lvl (s : State) (i : Fin 5) : Bool :=
  if (s.dbn.get i).atSecondRead then s.rawLevel i else (s.dbn.get i).level

/-- `keys` (R142): a button's bit is 1 when its level is 0. -/
def State.secondReadKeys (s : State) : BitVec 5 := (PerButton.ofRule fun i => !s.lvl i).keys

/-- `DELTA(t)` (R220). -/
def State.delta (s : State) (t : Nat) : Nat := subMod s.par.tW t s.lastSeen

/-- The liveness comparator (R221): `SEEN = 1 && EXPIRED = 0 && DELTA(now_i) <= cfg_timeout_i`. -/
def State.comparator (s : State) : Bool :=
  s.seen && !s.expired && decide (s.delta s.nowIn ≤ s.timeoutIn)

/-- The expiry's condition (R223): `SEEN = 1 && EXPIRED = 0 && DELTA(in.now_i) > in.cfg_timeout_i`. -/
def State.timedOut (s : State) : Bool :=
  s.seen && !s.expired && decide (s.timeoutIn < s.delta s.nowIn)

end Sys2Proof.Machine
end

