-- ==== Sys2Proof/Machine/Ops.lean ====
section
/-!
DEFINITION. The named operations over the registers. First the single writes, one for each group of registers that the
rules write together; then the procedures that several rules share: DBN_START (spec/40_input_sampler.md R141), the
debounce step (R142), HC (R146), KA_STEP and TT_COMPLETE (spec/42_transmit_scheduler.md R201, R202), REFRESH and the
expiry (spec/43_link_supervisor.md R222, R223), and reset (spec/70_reset_and_hazards.md R270).

Taking an exception and returning from one do not exist on this hardware (spec/60_exceptions.md R244, R245).
-/

namespace Sys2Proof.Machine

/-! ### Single writes -/

/-- The strobe return (R56), done before the edge's own writes (log 10). -/
def State.returnStrobes (s : State) : State := { s with txStb := false, illegalStb := false }

/-- A frame for the transport: "each time together with TX_STB <- 1" (R52). -/
def State.sendFrame (s : State) (f : Frame) : State := { s with frameOut := f, txStb := true }

/-- `ILLEGAL_STB <- 1` (R103). -/
def State.raiseIllegal (s : State) : State := { s with illegalStb := true }

/-- `SEQ <- q`. -/
def State.setSeq (s : State) (q : SeqPhase) : State := { s with seq := q }

/-- The debounce state of all five buttons. -/
def State.setDbn (s : State) (d : PerButton Button) : State := { s with dbn := d }

/-- `SAMPLED_KEYS <- keys`. -/
def State.setSampled (s : State) (keys : BitVec 5) : State := { s with sampledKeys := keys }

/-- The stored InputState and CUR_VALID, "always one whole sample" (R146, R148). -/
def State.storeCurrent (s : State) (keys : BitVec 5) (x y : BitVec 10) : State :=
  { s with curKeys := keys, curX := x, curY := y, curValid := true }

/-- `CHANGED <- b`. -/
def State.setChanged (s : State) (b : Bool) : State := { s with changed := b }

/-- `KA_CNT <- n`. -/
def State.setKaCnt (s : State) (n : Nat) : State := { s with kaCnt := n }

/-- `CKS_RESULT <- c`. -/
def State.setCks (s : State) (c : Byte) : State := { s with cksResult := c }

/-- `DEC_CODE <- c`. -/
def State.setDecCode (s : State) (c : DecCode) : State := { s with decCode := c }

/-- `DEC_KEYS`, `DEC_X` and `DEC_Y` (R179, on STATUS only). -/
def State.setDecFields (s : State) (keys : BitVec 8) (x y : BitVec 16) : State :=
  { s with decKeys := keys, decX := x, decY := y }

/-- REFRESH (R222): `SEEN <- 1`, `LAST_SEEN <- in.now_i`, `EXPIRED <- 0`. -/
def State.refresh (s : State) : State :=
  { s with seen := true, lastSeen := s.nowIn, expired := false }

/-- `EXPIRED <- 1` (R223). -/
def State.markExpired (s : State) : State := { s with expired := true }

/-- `ALIVE_R <- b`. -/
def State.setAliveR (s : State) (b : Bool) : State := { s with aliveR := b }

/-- Every register at its reset value (R59, R270); the build, the ports and the schedule are no registers. -/
def State.resetRegisters (s : State) : State :=
  { State.reset with par := s.par, inp := s.inp, sched := s.sched }

/-- The next cycle's port values: the schedule's next entry, or the same values held (log 4). -/
def State.advancePorts (s : State) : State :=
  { s with inp := s.sched.head?.getD s.inp, sched := s.sched.tail }

/-! ### The debounce procedures -/

/-- DBN_START's result (R141). -/
inductive DbnResult where
  | complete (keys : BitVec 5)
  | pending
  deriving DecidableEq, Repr

/-- The first read of one button (R141). -/
def Button.firstRead (cycles : Nat) (raw : Bool) : Button :=
  if raw then ⟨raw, .idle, 0⟩ else ⟨raw, .wait, cycles⟩

/-- The debounce state after the first reads (R141). -/
def State.firstReads (s : State) : PerButton Button :=
  PerButton.ofRule fun i => Button.firstRead s.par.debounceCycles (s.rawLevel i)

/-- `DBN_START(w)` (R141): nothing pressed completes at once with keys 0; else SEQ waits in `w`. -/
def State.dbnStart (s : State) (w : SeqPhase) : State × DbnResult :=
  if s.inp.btnRaw = 0b11111#5 then ((s.setDbn s.firstReads).setSampled 0#5, .complete 0#5)
  else ((s.setDbn s.firstReads).setSeq w, .pending)

/-- One button at a debounce edge (R142). The count is DBN_W bits wide (log 14). -/
def Button.tick (width : Nat) (raw : Bool) (b : Button) : Button :=
  if b.atSecondRead then ⟨raw, .idle, 0⟩
  else if b.phase = .wait then { b with count := subMod width b.count 1 }
  else b

/-- The debounce state after a debounce edge (R142). -/
def State.tickButtons (s : State) : PerButton Button :=
  PerButton.ofRule fun i => (s.dbn.get i).tick s.par.dbnW (s.rawLevel i)

/-! ### Change detector, keepalive counter, tick completion -/

/-- The HC function (R146): the stored values change only when a change is reported, all together. -/
def State.hc (s : State) (keys : BitVec 5) (x y : BitVec 10) : State × Bool :=
  if s.hcTest keys x y then ((s.storeCurrent keys x y).setChanged true, true) else (s.setChanged false, false)

/-- KA_STEP (R202). -/
def State.kaStep (s : State) : State × Bool :=
  if s.kaDue then (s.setKaCnt 0, true) else (s.setKaCnt (s.kaCnt + 1), false)

/-- TT_COMPLETE(keys) (R201). -/
def State.ttComplete (s : State) (keys : BitVec 5) : State :=
  let (s1, ch) := s.hc keys s.inp.axisX s.inp.axisY
  let (s2, due) := s1.kaStep
  if ch then
    (s2.sendFrame (encS keys s.inp.axisX s.inp.axisY)).setSeq (if due then .ttKa else .idle)
  else if due then (s2.sendFrame (encK s.par.kaPreamble)).setSeq .idle
  else s2.setSeq .idle

/-! ### Sequencer steps -/

/-- The debounce step (R142), at an edge with SEQ = SB_WAIT or SEQ = TT_WAIT. -/
def State.debounceStep (s : State) : State :=
  let t := s.setDbn s.tickButtons
  if s.sampleDone then
    let u := t.setSampled s.secondReadKeys
    if s.seq = .sbWait then u.setSeq .idle else u.ttComplete s.secondReadKeys
  else t

/-- TX_TICK's keepalive slot (R203), at an edge with SEQ = TT_KA. -/
def State.keepaliveSlot (s : State) : State := (s.sendFrame (encK s.par.kaPreamble)).setSeq .idle

/-- "Run the sequencer step for SEQ" (R102). -/
def State.sequencerStep (s : State) : State :=
  match s.seq with
  | .idle => s
  | .sbWait => s.debounceStep
  | .ttWait => s.debounceStep
  | .ttKa => s.keepaliveSlot

/-! ### The rules of every edge, and the build's refusal -/

/-- The expiry (R223), on the state after the edge's own writes. A refresh at this edge has set LAST_SEEN to
`in.now_i`, so DELTA is 0 and the refresh wins (log 11). -/
def State.expire (s : State) : State := if s.timedOut then s.markExpired else s

/-- What every edge but a reset edge ends with (R20): the expiry, and then the ports of the next cycle. -/
def State.finishEdge (s : State) : State := s.expire.advancePorts

/-- Why a build is refused, if it is (R5, R6, R8 to R10; log 12). -/
def State.buildRefusal (s : State) : Option Refusal :=
  if s.par.preambleOk = false then some .kaPreambleIsStatusPreamble
  else if s.par.debounceOk = false then some .debounceCyclesIsZero
  else if s.par.widthsOk = false then some .widthOutOfRange
  else none

end Sys2Proof.Machine
end

