-- ==== Sys2Proof/Machine/Codec.lean ====
section
/-!
DEFINITION. The meanings of ENC_STATUS, ENC_KEEPALIVE, DECODE and CHECKSUM (spec/41_frame_codec.md R172, R174, R176,
R179), at their accepting edge.
-/

namespace Sys2Proof.Machine

/-- ENC_STATUS (R174): the frame of the argument ports, offered to the transport. -/
def execEncStatus (s : State) : Host.Outcome State Fault Refusal :=
  .next (s.sendFrame (encS s.inp.argKeys s.inp.argX s.inp.argY))

/-- ENC_KEEPALIVE (R176): the build's Keepalive, offered to the transport; KA_CNT is not touched. -/
def execEncKeepalive (s : State) : Host.Outcome State Fault Refusal :=
  .next (s.sendFrame (encK s.par.kaPreamble))

/-- DECODE (R179): the result code always, the fields on STATUS, the refresh on STATUS and KEEPALIVE. -/
def execDecode (s : State) : Host.Outcome State Fault Refusal :=
  let t := s.setDecCode (DecCode.ofClass s.received)
  match s.received with
  | .status keys x y => .next (t.setDecFields keys x y).refresh
  | .keepalive => .next t.refresh
  | .lengthError => .next t
  | .checksumError => .next t
  | .unknownFrameType => .next t

/-- CHECKSUM (R172): the XOR of the first `min(in.rx_len_i, 7)` received bytes. -/
def execChecksum (s : State) : Host.Outcome State Fault Refusal :=
  .next (s.setCks (xorfold (firstBytes s.inp.rxFrame s.sliceLen)))

end Sys2Proof.Machine
end

