-- ==== Sys2Proof/Machine/Command.lean ====
section
/-!
DEFINITION. The meanings of NOP and of the reserved command codes (spec/30_encoding.md R103, spec/60_exceptions.md R242).
-/

namespace Sys2Proof.Machine

/-- NOP (R103): "(nothing)". -/
def execNop (s : State) : Host.Outcome State Fault Refusal := .next s

/-- RESERVED, code 0x9 (R103): `ILLEGAL_STB <- 1`, otherwise NOP. -/
def execReserved9 (s : State) : Host.Outcome State Fault Refusal := .next s.raiseIllegal

/-- RESERVED, codes 0xA and 0xB (R103): `ILLEGAL_STB <- 1`, otherwise NOP, whichever of the two codes it is. -/
def execReservedAB (s : State) : Host.Outcome State Fault Refusal := .next s.raiseIllegal

/-- RESERVED, codes 0xC to 0xF (R103): `ILLEGAL_STB <- 1`, otherwise NOP, whichever of the four codes it is. -/
def execReservedCF (s : State) : Host.Outcome State Fault Refusal := .next s.raiseIllegal

end Sys2Proof.Machine
end

