-- ==== Sys2Proof/Machine/Frames.lean ====
section
/-!
DEFINITION. The meanings of the three wire-frame rows: what a frame of length 7 with a valid checksum does when DECODE
receives it (spec/41_frame_codec.md R177 to R179, spec/30_encoding.md R110; log 6).
-/

namespace Sys2Proof.Machine

/-- FRAME_STATUS: "DEC_CODE 1 STATUS", the fields verbatim (R111, R182), and the refresh (R222). -/
def execFrameStatus (keys : BitVec 8) (x y : BitVec 16) (s : State) : Host.Outcome State Fault Refusal :=
  .next ((s.setDecCode .status).setDecFields keys x y).refresh

/-- FRAME_KEEPALIVE: "DEC_CODE 2 KEEPALIVE" whatever the payload (R112), and the refresh (R222); the fields of the last
Status frame stay (R54). -/
def execFrameKeepalive (s : State) : Host.Outcome State Fault Refusal :=
  .next (s.setDecCode .keepalive).refresh

/-- FRAME_UNKNOWN: "DEC_CODE 5 UNKNOWN_FRAME_TYPE" and no refresh (R227). -/
def execFrameUnknown (s : State) : Host.Outcome State Fault Refusal :=
  .next (s.setDecCode .unknownFrameType)

end Sys2Proof.Machine
end

