-- ==== Sys2Proof/Machine/Sampler.lean ====
section
/-!
DEFINITION. The meanings of SAMPLE_BUTTONS and HAS_CHANGED (spec/40_input_sampler.md R141, R147), at their accepting edge.
-/

namespace Sys2Proof.Machine

/-- SAMPLE_BUTTONS (R141): `DBN_START(SB_WAIT)`; a complete sample leaves SEQ as it is. -/
def execSampleButtons (s : State) : Host.Outcome State Fault Refusal := .next (s.dbnStart .sbWait).1

/-- HAS_CHANGED (R147): `HC(SAMPLED_KEYS, in.axis_x_i, in.axis_y_i)`. -/
def execHasChanged (s : State) : Host.Outcome State Fault Refusal :=
  .next (s.hc s.sampledKeys s.inp.axisX s.inp.axisY).1

end Sys2Proof.Machine
end

