-- ==== Sys2Proof/Machine/Scheduler.lean ====
section
/-!
DEFINITION. The meaning of TX_TICK at its accepting edge (spec/42_transmit_scheduler.md R200). Its later edges are the
debounce step (R142) and the keepalive slot (R203) of Machine/Ops.lean.
-/

namespace Sys2Proof.Machine

/-- TX_TICK (R200): `DBN_START(TT_WAIT)`; a sample complete at once runs TT_COMPLETE at this same edge. -/
def execTxTick (s : State) : Host.Outcome State Fault Refusal :=
  match s.dbnStart .ttWait with
  | (t, .complete keys) => .next (t.ttComplete keys)
  | (t, .pending) => .next t

end Sys2Proof.Machine
end

