-- ==== Sys2Proof/Machine/Supervisor.lean ====
section
/-!
DEFINITION. The meaning of IS_ALIVE (spec/43_link_supervisor.md R224), at its accepting edge.
-/

namespace Sys2Proof.Machine

/-- IS_ALIVE (R224): ALIVE_R takes the comparator's value before the edge. -/
def execIsAlive (s : State) : Host.Outcome State Fault Refusal := .next (s.setAliveR s.comparator)

end Sys2Proof.Machine
end

