-- ==== Sys2Proof/Machine/Dispatch.lean ====
section
/-!
DEFINITION. One arm for each instruction: what its accepting edge writes (spec/00_scope.md R20). The strobe return, the
expiry and the next cycle's ports are step's.
-/

namespace Sys2Proof.Machine

def exec (i : Instr) (s : State) : Host.Outcome State Fault Refusal :=
  match i with
  | .nop => Sys2Proof.Machine.execNop s
  | .sampleButtons => Sys2Proof.Machine.execSampleButtons s
  | .hasChanged => Sys2Proof.Machine.execHasChanged s
  | .encStatus => Sys2Proof.Machine.execEncStatus s
  | .encKeepalive => Sys2Proof.Machine.execEncKeepalive s
  | .decode => Sys2Proof.Machine.execDecode s
  | .checksum => Sys2Proof.Machine.execChecksum s
  | .txTick => Sys2Proof.Machine.execTxTick s
  | .isAlive => Sys2Proof.Machine.execIsAlive s
  | .reserved9 => Sys2Proof.Machine.execReserved9 s
  | .reservedAB _ => Sys2Proof.Machine.execReservedAB s
  | .reservedCF _ => Sys2Proof.Machine.execReservedCF s
  | .frameStatus keys x y => Sys2Proof.Machine.execFrameStatus keys x y s
  | .frameKeepalive _ => Sys2Proof.Machine.execFrameKeepalive s
  | .frameUnknown _ _ => Sys2Proof.Machine.execFrameUnknown s

end Sys2Proof.Machine
end

