-- ==== Sys2Proof/Machine/Step.lean ====
section
/-!
DEFINITION. One edge of `clk_i` (spec/00_scope.md R18, R20; spec/30_encoding.md R102).
-/

namespace Sys2Proof.Machine

/-- The edge of an accepted operation: its writes, and then what every edge ends with. -/
def afterOperation : Host.Outcome State Fault Refusal → Host.Outcome State Fault Refusal
  | .next t => .next t.finishEdge
  | .fault r => .fault r
  | .refused r => .refused r

/-- One edge: reset if `in.rst_i = 1` (R270), otherwise the sequencer step, the accepted operation or nothing (R102),
then the expiry. An illegal build is refused at each edge (log 12). -/
def step (s : State) : Host.Outcome State Fault Refusal :=
  match s.buildRefusal with
  | some r => .refused r
  | none =>
    if s.inp.rst then .next s.resetRegisters.advancePorts
    else if s.seq ≠ .idle then .next s.returnStrobes.sequencerStep.finishEdge
    else if s.inp.opValid then afterOperation (exec s.offered s.returnStrobes)
    else .next s.returnStrobes.finishEdge

/-- `s` with a row's bits where the next step takes its operation: the command port, on an idle block out of reset
(R102), or, for a frame row, DECODE on the command port with that frame of length 7 on the receive port (R37, R110). -/
def State.withFetchWord (s : State) (nbits w : Nat) : State :=
  if nbits = 56 then
    { s with
      seq := .idle
      inp := { s.inp with
        rst := false
        opValid := true
        op := 0x5#4
        rxLen := Config.frameLen
        rxFrame := BitVec.ofNat 56 w } }
  else
    { s with
      seq := .idle
      inp := { s.inp with rst := false, opValid := true, op := BitVec.ofNat 4 w } }

end Sys2Proof.Machine
end

