-- ==== Sys2Proof/Machine/Outputs.lean ====
section
/-!
DEFINITION. The output ports (spec/10_state.md R39 to R43, R61; spec/60_exceptions.md R247) during the cycle whose port
values are `inp`.
-/

namespace Sys2Proof.Machine

/-- The output ports' values in one cycle. -/
structure Outputs where
  /-- `ready_o` (R39). -/
  ready : Bool
  /-- `tx_frame_o` (R40). -/
  txFrame : Frame
  /-- `tx_valid_o` (R40). -/
  txValid : Bool
  /-- `sampled_keys_o` (R41). -/
  sampledKeys : BitVec 5
  /-- `cur_keys_o` (R41). -/
  curKeys : BitVec 5
  /-- `cur_x_o` (R41). -/
  curX : BitVec 10
  /-- `cur_y_o` (R41). -/
  curY : BitVec 10
  /-- `changed_o` (R41). -/
  changed : Bool
  /-- `cks_o` (R42). -/
  cks : Byte
  /-- `dec_code_o` (R42). -/
  decCode : BitVec 3
  /-- `dec_keys_o` (R42). -/
  decKeys : BitVec 8
  /-- `dec_x_o` (R42). -/
  decX : BitVec 16
  /-- `dec_y_o` (R42). -/
  decY : BitVec 16
  /-- `illegal_o` (R42). -/
  illegal : Bool
  /-- `alive_o` (R43), the one output that reads a port in the same cycle (R61). -/
  alive : Bool
  /-- `alive_r_o` (R43). -/
  aliveR : Bool
  /-- `seen_o` (R43). -/
  seen : Bool
  /-- `expired_o` (R43). -/
  expired : Bool
  /-- `last_seen_o` (R43), T_W bits. -/
  lastSeen : Nat
  deriving DecidableEq, Repr

/-- `ready_o = bool(SEQ == IDLE)` (R39). -/
def State.ready (s : State) : Bool := s.seq == .idle

/-- The output ports in the cycle that ends at the next edge. -/
def State.outputs (s : State) : Outputs where
  ready := s.ready
  txFrame := s.frameOut
  txValid := s.txStb
  sampledKeys := s.sampledKeys
  curKeys := s.curKeys
  curX := s.curX
  curY := s.curY
  changed := s.changed
  cks := s.cksResult
  decCode := s.decCode.toBits
  decKeys := s.decKeys
  decX := s.decX
  decY := s.decY
  illegal := s.illegalStb
  alive := s.comparator
  aliveR := s.aliveR
  seen := s.seen
  expired := s.expired
  lastSeen := s.lastSeen

end Sys2Proof.Machine
end

