-- ==== Sys2Proof/Safety.lean ====
section
/-!
DEFINITION. The terms in which claims about runs are stated: what happens at an edge, a run, the last good frame, and
the invariant that every step keeps.
-/

namespace Sys2Proof

/-- A good frame (glossary of spec/00_scope.md): one that DECODE reports as STATUS or KEEPALIVE. -/
def FrameClass.good : FrameClass → Bool
  | .status _ _ _ => true
  | .keepalive => true
  | .lengthError => false
  | .checksumError => false
  | .unknownFrameType => false

/-- A reserved command code (R103, R242). -/
def Instr.isReserved : Instr → Bool
  | .reserved9 => true
  | .reservedAB _ => true
  | .reservedCF _ => true
  | .nop => false
  | .sampleButtons => false
  | .hasChanged => false
  | .encStatus => false
  | .encKeepalive => false
  | .decode => false
  | .checksum => false
  | .txTick => false
  | .isAlive => false
  | .frameStatus _ _ _ => false
  | .frameKeepalive _ => false
  | .frameUnknown _ _ => false

end Sys2Proof

namespace Sys2Proof.Machine

/-! ### What happens at an edge -/

/-- The operation accepted at this edge, if one is (R102). -/
def State.accepted (s : State) : Option Instr :=
  if s.inp.rst = false ∧ s.seq = .idle ∧ s.inp.opValid = true then some s.offered else none

/-- REFRESH runs at this edge (R222): a DECODE is accepted and its result is STATUS or KEEPALIVE. -/
def State.refreshes (s : State) : Bool := s.accepted == some .decode && s.received.good

/-- A debounce sample started by an earlier edge is in flight (R46). -/
def State.sampling (s : State) : Prop := s.seq = .sbWait ∨ s.seq = .ttWait

/-- TT_COMPLETE runs at this edge (R201): a TX_TICK is accepted with no button pressed, or the sample of one in flight
completes. -/
def State.completesTick (s : State) : Bool :=
  !s.inp.rst &&
    ((s.accepted == some .txTick && s.inp.btnRaw == 0b11111#5) || (s.seq == .ttWait && s.sampleDone))

/-! ### Runs -/

/-- `σ 0, …, σ n` are the states of `n` edges in a row: `σ k` holds in the cycle that edge `k` ends. -/
def Runs (σ : Nat → State) (n : Nat) : Prop := ∀ k, k < n → step (σ k) = .next (σ (k + 1))

/-- The edge of the last good frame before cycle `k`, if there was one since the last reset edge. -/
def lastGood (σ : Nat → State) : Nat → Option Nat
  | 0 => none
  | k + 1 =>
    if (σ k).inp.rst then none
    else if (σ k).refreshes then some k
    else lastGood σ k

/-- How many ticks have completed before cycle `k` (R205). -/
def ticksDone (σ : Nat → State) : Nat → Nat
  | 0 => 0
  | k + 1 => if (σ k).completesTick then ticksDone σ k + 1 else ticksDone σ k

/-! ### The invariant -/

/-- All five debounce machines at rest (R144). -/
def State.dbnAtRest (s : State) : Prop :=
  ∀ i : Fin 5, (s.dbn.get i).phase = .idle ∧ (s.dbn.get i).count = 0

/-- A debounce sample in flight (R47, R140): some button waits, and every waiting button holds the same count, which
is from 1 to DEBOUNCE_CYCLES, and the level 0 of its first read. -/
def State.dbnInFlight (s : State) : Prop :=
  ∃ c, 1 ≤ c ∧ c ≤ s.par.debounceCycles ∧
    (∃ i : Fin 5, (s.dbn.get i).phase = .wait) ∧
    ∀ i : Fin 5,
      ((s.dbn.get i).phase = .wait → (s.dbn.get i).count = c ∧ (s.dbn.get i).level = false) ∧
      ((s.dbn.get i).phase = .idle → (s.dbn.get i).count = 0 ∧ (s.dbn.get i).level = true)

/-- What holds in every state a legal build can reach from reset. -/
structure State.Inv (s : State) : Prop where
  /-- The build is legal (R5, R6, R8 to R10). -/
  legal : s.par.legal = true
  /-- KA_CNT fits its width (R51, R202: it "never overflows"). -/
  kaCnt_lt : s.kaCnt < 2 ^ s.par.kaW
  /-- LAST_SEEN fits its width (R55). -/
  lastSeen_lt : s.lastSeen < 2 ^ s.par.tW
  /-- No button waits unless a sample is in flight (R144). -/
  atRest : ¬ s.sampling → s.dbnAtRest
  /-- The buttons of a sample in flight share one count (R47). -/
  inFlight : s.sampling → s.dbnInFlight
  /-- FRAME_OUT always passes the decoder's checksum test (R107). -/
  frameSealed : cks6 s.frameOut = byteOf s.frameOut 6
  /-- The two strobes never coincide (R56, R102: one operation an edge). -/
  oneStrobe : ¬ (s.txStb = true ∧ s.illegalStb = true)
  /-- No strobe is up while a sample is in flight (R141, R142). -/
  quietWait : s.sampling → s.txStb = false ∧ s.illegalStb = false
  /-- In the keepalive slot the Status frame of the sample just stored is on offer, and the counter has restarted (R201,
  R202). -/
  slot : s.seq = .ttKa →
    s.txStb = true ∧ s.frameOut = encS s.curKeys s.curX s.curY ∧ s.kaCnt = 0 ∧ s.curValid = true ∧ s.changed = true
  /-- Before the first change test nothing is stored and no change is reported (R49, R146). -/
  unstored : s.curValid = false → s.curKeys = 0#5 ∧ s.curX = 0#10 ∧ s.curY = 0#10 ∧ s.changed = false
  /-- Before the first good frame LAST_SEEN, EXPIRED, ALIVE_R and the Status fields hold their reset values, and DEC_CODE is
  NONE or an error's code (R226, R59, R227). -/
  unseen : s.seen = false →
    s.lastSeen = 0 ∧ s.expired = false ∧ s.aliveR = false ∧ s.decCode ≠ .status ∧ s.decCode ≠ .keepalive ∧
      s.decKeys = 0#8 ∧ s.decX = 0#16 ∧ s.decY = 0#16

end Sys2Proof.Machine
end

