-- ==== Sys2Proof/Certificates/Slice0/Obligations.lean ====
section
/-!
DEFINITION. The statements for the provers, one for each entry of OBLIGATIONS.json. `exec i s` is what the accepting edge
of `i` writes; `step` adds the strobe return before it (`State.returnStrobes`, R56) and the expiry and the next cycle's
ports after it (`State.finishEdge`, R223).
-/

open Sys2Proof Sys2Proof.Machine

/-! ### Encodings -/

/-- R101: "Every value of `op_i[3:0]` selects exactly one row", and the decoder gives that row's operation. -/
def Obligations.EveryCommandCodeSelectsOneRow : Prop :=
  ∀ op : BitVec 4, ∃ r : CommandRow,
    commandRows.filter (fun q => q.covers op) = [r] ∧ r.mnemonic = (decodeCommand op).mnemonic

/-- Words written out from spec/30_encoding.md R101, R105, R106 and spec/95_test_vectors.md decode to their instructions. -/
def Obligations.WordsOfTheSpecDecode : Prop :=
  decodeCommand 0b0101#4 = .decode ∧ decodeCommand 0b1000#4 = .isAlive ∧ decodeCommand 0b0111#4 = .txTick ∧
    decodeCommand 0b1011#4 = .reservedAB 1#1 ∧ decodeCommand 0b1110#4 = .reservedCF 2#2 ∧
    decodeFrame 0xE0#8 7 0xAA1103FF000047#56 = .ok (.frameStatus 0x11#8 0x03FF#16 0#16) ∧
    decodeFrame 0xE0#8 7 0xE0AA55AA55AA4A#56 = .ok (.frameKeepalive 0xAA55AA55AA#40) ∧
    decodeFrame 0xE0#8 7 0x551103FF0000B8#56 = .ok (.frameUnknown 0x55#8 0x1103FF0000#40) ∧
    decodeFrame 0xE0#8 6 0xAA1103FF000047#56 = .error .lengthError ∧
    decodeFrame 0xE0#8 7 0xAA1103FF00005D#56 = .error .checksumError

/-- Decoding the encoding of a well-formed instruction gives it back, for every operand value and every legal preamble. -/
def Obligations.DecodeUndoesEncode : Prop :=
  ∀ (kaPre : Byte) (i : Instr), kaPre ≠ 0xAA#8 → i.wellFormed kaPre = true →
    decode kaPre (encode kaPre i) = .ok i

/-- Whatever decodes is the encoding of what it decodes to, and that is well formed: no bit is dropped. -/
def Obligations.EncodeUndoesDecode : Prop :=
  ∀ (kaPre : Byte) (e : Encoded) (i : Instr), decode kaPre e = .ok i →
    encode kaPre i = e ∧ i.wellFormed kaPre = true

/-- R108, R109: the split of a 10-bit axis value, and the join that undoes it. -/
def Obligations.AxisSplitAndJoin : Prop :=
  ∀ v : BitVec 10,
    (axisHigh v).toNat = v.toNat / 256 ∧ (axisLow v).toNat = v.toNat % 256 ∧
      axisJoin (axisHigh v) (axisLow v) = v.setWidth 16

/-! ### One edge -/

/-- R102, R20: at an edge with `rst_i = 0`, SEQ = IDLE and `op_valid_i = 1` the operation `op_i` encodes runs. step is
exec of it, and then the expiry (R223). The model's own: the strobes return before exec's writes and not after them (log 10),
and the edge ends by taking the next cycle's ports from the schedule (log 4), both in `returnStrobes` and `finishEdge`. -/
def Obligations.StepRunsTheOfferedOperation : Prop :=
  ∀ s : State, s.par.legal = true → s.inp.rst = false → s.seq = .idle → s.inp.opValid = true →
    ∃ t, exec (decodeCommand s.inp.op) s.returnStrobes = .next t ∧ step s = .next t.finishEdge

/-- R102, R56, R223: with no operation offered an idle block changes nothing but by the rules of every edge. The clauses for
`inp` and `sched` are the model's choice of how the ports advance (log 4), no rule of the spec. -/
def Obligations.IdleEdgeChangesNothing : Prop :=
  ∀ s : State, s.par.legal = true → s.inp.rst = false → s.seq = .idle → s.inp.opValid = false →
    step s = .next { s with
      txStb := false
      illegalStb := false
      expired := s.expired || (s.seen && decide (s.timeoutIn < s.delta s.nowIn))
      inp := s.sched.head?.getD s.inp
      sched := s.sched.tail }

/-- R116, R244: every edge of a legal block has a next state, whatever the ports and the registers hold. -/
def Obligations.LegalBlockNeverStops : Prop :=
  ∀ s : State, s.par.legal = true → ∃ t, step s = .next t

/-- The model's deduction (log 12): at each edge step refuses an illegal build, under the name of the first test that fails.
The spec says that KA_PREAMBLE = 0xAA (R5) and DEBOUNCE_CYCLES = 0 (R6) are refused at elaboration. For T_W, KA_W and LEN_W
it gives only legal ranges (R8 to R10): that a width outside its range is refused, that the refusal is an outcome of each
edge, and the order of the tests are the model's. -/
def Obligations.IllegalBuildsAreRefused : Prop :=
  ∀ s : State,
    (s.par.kaPreamble = 0xAA#8 → step s = .refused .kaPreambleIsStatusPreamble) ∧
      (s.par.kaPreamble ≠ 0xAA#8 → s.par.debounceCycles = 0 → step s = .refused .debounceCyclesIsZero) ∧
      (s.par.kaPreamble ≠ 0xAA#8 → s.par.debounceCycles ≠ 0 →
        ¬ (2 ≤ s.par.tW ∧ s.par.tW ≤ 64 ∧ 1 ≤ s.par.kaW ∧ s.par.kaW ≤ 32 ∧ 3 ≤ s.par.lenW ∧ s.par.lenW ≤ 16) →
        step s = .refused .widthOutOfRange)

/-- The model's own fields (log 1, log 4): the build never changes, and each edge moves the ports on by one entry of the
schedule, or holds them when the schedule is empty. -/
def Obligations.BuildStaysAndPortsAdvance : Prop :=
  ∀ s t : State, step s = .next t →
    t.par = s.par ∧
      (∀ p ps, s.sched = p :: ps → t.inp = p ∧ t.sched = ps) ∧
      (s.sched = [] → t.inp = s.inp ∧ t.sched = [])

/-! ### Reset -/

/-- R59, R270: after an edge with `rst_i = 1` every register holds its reset value, whatever was in flight, and nothing
else happens at that edge. -/
def Obligations.ResetEdgeSetsEveryRegister : Prop :=
  ∀ s : State, s.par.legal = true → s.inp.rst = true → ∃ t, step s = .next t ∧
    t.seq = .idle ∧ (∀ i : Fin 5, t.dbn.get i = { level := true, phase := .idle, count := 0 }) ∧
    t.sampledKeys = 0#5 ∧ t.curValid = false ∧ t.curKeys = 0#5 ∧ t.curX = 0#10 ∧ t.curY = 0#10 ∧
    t.changed = false ∧ t.kaCnt = 0 ∧ t.frameOut = 0#56 ∧ t.txStb = false ∧ t.illegalStb = false ∧
    t.cksResult = 0#8 ∧ t.decCode = .none ∧ t.decKeys = 0#8 ∧ t.decX = 0#16 ∧ t.decY = 0#16 ∧
    t.seen = false ∧ t.lastSeen = 0 ∧ t.expired = false ∧ t.aliveR = false

/-- R59: State.reset holds the table's values. Its build and ports are the model's choice (log 2, log 3, log 5). -/
def Obligations.ResetStateHoldsTheTable : Prop :=
  State.reset.seq = .idle ∧
    (∀ i : Fin 5, State.reset.dbn.get i = { level := true, phase := .idle, count := 0 }) ∧
    State.reset.sampledKeys = 0#5 ∧ State.reset.curValid = false ∧ State.reset.curKeys = 0#5 ∧
    State.reset.curX = 0#10 ∧ State.reset.curY = 0#10 ∧ State.reset.changed = false ∧ State.reset.kaCnt = 0 ∧
    State.reset.frameOut = 0#56 ∧ State.reset.txStb = false ∧ State.reset.illegalStb = false ∧
    State.reset.cksResult = 0#8 ∧ State.reset.decCode = .none ∧ State.reset.decKeys = 0#8 ∧
    State.reset.decX = 0#16 ∧ State.reset.decY = 0#16 ∧ State.reset.seen = false ∧ State.reset.lastSeen = 0 ∧
    State.reset.expired = false ∧ State.reset.aliveR = false

/-- R271: in the cycle after a reset edge, `ready_o = 1`, `tx_valid_o = 0`, `illegal_o = 0` and `alive_o = 0`. -/
def Obligations.OutputsAfterReset : Prop :=
  ∀ s t : State, s.inp.rst = true → step s = .next t →
    t.outputs.ready = true ∧ t.outputs.txValid = false ∧ t.outputs.illegal = false ∧ t.outputs.alive = false ∧
      t.outputs.decCode = 0#3

/-! ### NOP and the reserved codes -/

/-- R103, R242: code 0x0 writes nothing; codes 0x9 to 0xF write ILLEGAL_STB and nothing else, at the edge that accepts them
too, where the block stays idle; the strobe is gone one edge later if no operation is offered there. The strobe return and
the expiry of those edges are R56 and R223. The model's own, in `returnStrobes` and `finishEdge`: the strobes return before
the edge's writes (log 10), and the ports advance by the schedule (log 4). -/
def Obligations.NopAndReservedCodes : Prop :=
  (∀ (s : State) (a : BitVec 1) (b : BitVec 2),
    exec .nop s = .next s ∧
      exec .reserved9 s = .next { s with illegalStb := true } ∧
      exec (.reservedAB a) s = .next { s with illegalStb := true } ∧
      exec (.reservedCF b) s = .next { s with illegalStb := true }) ∧
    ∀ s : State, s.par.legal = true → s.inp.rst = false → s.seq = .idle → s.inp.opValid = true →
      (s.inp.op = 0x0#4 → step s = .next s.returnStrobes.finishEdge) ∧
        (9 ≤ s.inp.op.toNat → ∃ t, step s = .next t ∧ t = { s.returnStrobes.finishEdge with illegalStb := true } ∧
          t.outputs.illegal = true ∧ t.outputs.ready = true ∧
          (t.inp.opValid = false → ∀ u, step t = .next u → u.outputs.illegal = false))

/-- R242, R56: `illegal_o` is 1 after exactly the edges that accept a reserved code, so it lasts one cycle. -/
def Obligations.IllegalStrobeMarksReservedCodes : Prop :=
  ∀ s t : State, step s = .next t →
    (t.illegalStb = true ↔
      s.inp.rst = false ∧ s.seq = .idle ∧ s.inp.opValid = true ∧ 9 ≤ s.inp.op.toNat)

/-! ### Input sampler -/

/-- R141: SAMPLE_BUTTONS at its accepting edge. -/
def Obligations.SampleButtonsFirstRead : Prop :=
  ∀ s : State,
    (s.inp.btnRaw = 0b11111#5 → ∃ d : PerButton Button,
      exec .sampleButtons s = .next { s with dbn := d, sampledKeys := 0#5 } ∧
        ∀ i : Fin 5, d.get i = { level := true, phase := .idle, count := 0 }) ∧
      (s.inp.btnRaw ≠ 0b11111#5 → ∃ d : PerButton Button,
        exec .sampleButtons s = .next { s with dbn := d, seq := .sbWait } ∧
          ∀ i : Fin 5, d.get i =
            if s.inp.btnRaw.getLsbD i.val then { level := true, phase := .idle, count := 0 }
            else { level := false, phase := .wait, count := s.par.debounceCycles })

/-- R142 with R144 and the expiry of R223, in every state the invariant admits: at an edge of a SAMPLE_BUTTONS in flight a
waiting button counts down, or at count 1 is read again; the edge at which none waits on writes the keys and ends the
operation. The clauses for `inp` and `sched` are the model's choice of how the ports advance (log 4), no rule of the spec.
Edges of a TX_TICK in flight are in `Obligations.TxTickWithAPressCompletesLater`. -/
def Obligations.DebounceEdge : Prop :=
  ∀ s : State, s.Inv → s.inp.rst = false → s.seq = .sbWait → ∃ (d : PerButton Button) (q : SeqPhase) (k : BitVec 5),
    step s = .next { s with
      dbn := d
      seq := q
      sampledKeys := k
      expired := s.expired || (s.seen && decide (s.timeoutIn < s.delta s.nowIn))
      inp := s.sched.head?.getD s.inp
      sched := s.sched.tail } ∧
    (∀ i : Fin 5,
      ((s.dbn.get i).phase = .idle → d.get i = s.dbn.get i) ∧
      ((s.dbn.get i).phase = .wait → (s.dbn.get i).count = 1 →
        d.get i = { level := s.inp.btnRaw.getLsbD i.val, phase := .idle, count := 0 }) ∧
      ((s.dbn.get i).phase = .wait → (s.dbn.get i).count ≠ 1 →
        d.get i = { level := false, phase := .wait, count := (s.dbn.get i).count - 1 })) ∧
    ((∃ i : Fin 5, (s.dbn.get i).phase = .wait ∧ 1 < (s.dbn.get i).count) → q = .sbWait ∧ k = s.sampledKeys) ∧
    ((∀ i : Fin 5, ¬ ((s.dbn.get i).phase = .wait ∧ 1 < (s.dbn.get i).count)) →
      q = .idle ∧ ∀ i : Fin 5, k.getLsbD i.val = !(d.get i).level)

/-- R140, R143, R144, R282: a SAMPLE_BUTTONS accepted with a button pressed is busy for exactly DEBOUNCE_CYCLES cycles, in
which SAMPLED_KEYS keeps its old value; after the edge E0 + DEBOUNCE_CYCLES a key's bit is 1 exactly when that button read
pressed at both reads, every button is at rest, and DBN_LVL holds the last level read. -/
def Obligations.SampleKeepsWhatBothReadsSaw : Prop :=
  ∀ (σ : Nat → State) (d : Nat), (σ 0).par.debounceCycles = d → Runs σ (d + 1) →
    (∀ k, k ≤ d → (σ k).inp.rst = false) →
    (σ 0).seq = .idle → (σ 0).inp.opValid = true → (σ 0).inp.op = 0x1#4 → (σ 0).inp.btnRaw ≠ 0b11111#5 →
    (∀ k, 1 ≤ k → k ≤ d → (σ k).outputs.ready = false ∧ (σ k).sampledKeys = (σ 0).sampledKeys) ∧
      (σ (d + 1)).outputs.ready = true ∧
      (σ (d + 1)).sampledKeys = ~~~(σ 0).inp.btnRaw &&& ~~~(σ d).inp.btnRaw ∧
      ∀ i : Fin 5, (σ (d + 1)).dbn.get i =
        { level := if (σ 0).inp.btnRaw.getLsbD i.val then true else (σ d).inp.btnRaw.getLsbD i.val
          phase := .idle
          count := 0 }

/-- R146, R147: the HC function and HAS_CHANGED, code 0x2. The axis differences are exact integers, the comparison is strict,
and the stored values change only when a change is reported, all together. -/
def Obligations.HasChangedComparesAndStores : Prop :=
  decodeCommand 0x2#4 = .hasChanged ∧
    ∀ s : State,
      (∀ (keys : BitVec 5) (x y : BitVec 10),
        let change : Prop :=
          s.curValid = false ∨ keys ≠ s.curKeys ∨
            s.inp.thrX.toNat < ((x.toNat : Int) - s.curX.toNat).natAbs ∨
            s.inp.thrY.toNat < ((y.toNat : Int) - s.curY.toNat).natAbs
        (change →
          s.hc keys x y = ({ s with curKeys := keys, curX := x, curY := y, curValid := true, changed := true }, true)) ∧
          (¬ change → s.hc keys x y = ({ s with changed := false }, false))) ∧
        exec .hasChanged s = .next (s.hc s.sampledKeys s.inp.axisX s.inp.axisY).1

/-- R149: a second HAS_CHANGED on the same sample and the same axis values reports no change and stores nothing. -/
def Obligations.SecondHasChangedReportsNothing : Prop :=
  ∀ s t : State, exec .hasChanged s = .next t → exec .hasChanged t = .next { t with changed := false }

/-! ### Frame codec -/

/-- R173, R174: the Status encoder, and ENC_STATUS, code 0x3, which sends the frame of the argument ports and touches nothing
else. -/
def Obligations.EncStatusSendsTheArgumentFrame : Prop :=
  (∀ (keys : BitVec 5) (x y : BitVec 10),
    let f := encS keys x y
    byteOf f 0 = 0xAA#8 ∧ byteOf f 1 = keys.setWidth 8 ∧
      byteOf f 2 = (x.extractLsb' 8 2).setWidth 8 ∧ byteOf f 3 = x.extractLsb' 0 8 ∧
      byteOf f 4 = (y.extractLsb' 8 2).setWidth 8 ∧ byteOf f 5 = y.extractLsb' 0 8 ∧
      byteOf f 6 = byteOf f 0 ^^^ byteOf f 1 ^^^ byteOf f 2 ^^^ byteOf f 3 ^^^ byteOf f 4 ^^^ byteOf f 5) ∧
    decodeCommand 0x3#4 = .encStatus ∧
    ∀ s : State, exec .encStatus s = .next { s with
      frameOut := encS s.inp.argKeys s.inp.argX s.inp.argY
      txStb := true }

/-- R175, R176: the Keepalive encoder, whose checksum is KA_PREAMBLE ^ 0xAA, and ENC_KEEPALIVE, code 0x4, which sends that
frame and touches nothing else, KA_CNT included. -/
def Obligations.EncKeepaliveSendsTheKeepalive : Prop :=
  (∀ pre : Byte,
    let f := encK pre
    byteOf f 0 = pre ∧ byteOf f 1 = 0xAA#8 ∧ byteOf f 2 = 0x55#8 ∧ byteOf f 3 = 0xAA#8 ∧ byteOf f 4 = 0x55#8 ∧
      byteOf f 5 = 0xAA#8 ∧
      byteOf f 6 = byteOf f 0 ^^^ byteOf f 1 ^^^ byteOf f 2 ^^^ byteOf f 3 ^^^ byteOf f 4 ^^^ byteOf f 5 ∧
      byteOf f 6 = pre ^^^ 0xAA#8) ∧
    encK 0xE0#8 = 0xE0AA55AA55AA4A#56 ∧ decodeCommand 0x4#4 = .encKeepalive ∧
    ∀ s : State, exec .encKeepalive s = .next { s with frameOut := encK s.par.kaPreamble, txStb := true }

/-- R172: CHECKSUM, code 0x6, folds the first `min(rx_len_i, 7)` received bytes and touches nothing else. -/
def Obligations.ChecksumFoldsTheReceivedBytes : Prop :=
  decodeCommand 0x6#4 = .checksum ∧
    ∀ s : State, exec .checksum s = .next { s with
      cksResult := xorfold ((List.range (min s.rxLenIn 7)).map (byteOf s.inp.rxFrame)) }

/-- R171, R172: CHECKSUM of no byte is 0; of six bytes, the value byte 6 must equal; of seven, 0 exactly on a frame that
passes the checksum test. -/
def Obligations.ChecksumTellsValidFrames : Prop :=
  ∀ s t : State, exec .checksum s = .next t →
    (s.rxLenIn = 0 → t.cksResult = 0#8) ∧
      (s.rxLenIn = 6 → t.cksResult = cks6 s.inp.rxFrame) ∧
      (7 ≤ s.rxLenIn → (t.cksResult = 0#8 ↔ cks6 s.inp.rxFrame = byteOf s.inp.rxFrame 6))

/-- R177, R179, R222: DECODE, code 0x5, result by result, with all it writes. -/
def Obligations.DecodeFollowsTheFiveResults : Prop :=
  decodeCommand 0x5#4 = .decode ∧ ∀ s : State,
    let b := byteOf s.inp.rxFrame
    let sum := b 0 ^^^ b 1 ^^^ b 2 ^^^ b 3 ^^^ b 4 ^^^ b 5
    (s.rxLenIn ≠ 7 → exec .decode s = .next { s with decCode := .lengthError }) ∧
      (s.rxLenIn = 7 → sum ≠ b 6 → exec .decode s = .next { s with decCode := .checksumError }) ∧
      (s.rxLenIn = 7 → sum = b 6 → b 0 = 0xAA#8 → exec .decode s = .next { s with
        decCode := .status
        decKeys := b 1
        decX := b 2 ++ b 3
        decY := b 4 ++ b 5
        seen := true
        lastSeen := s.nowIn
        expired := false }) ∧
      (s.rxLenIn = 7 → sum = b 6 → b 0 ≠ 0xAA#8 → b 0 = s.par.kaPreamble → exec .decode s = .next { s with
        decCode := .keepalive
        seen := true
        lastSeen := s.nowIn
        expired := false }) ∧
      (s.rxLenIn = 7 → sum = b 6 → b 0 ≠ 0xAA#8 → b 0 ≠ s.par.kaPreamble →
        exec .decode s = .next { s with decCode := .unknownFrameType })

/-- R110 (log 6): when the receive port holds a frame that the frame decoder reads as a row of the table, DECODE does what
that row does, and the row read is well formed. -/
def Obligations.DecodeActsAsTheFrameRow : Prop :=
  ∀ (s : State) (i : Instr), decodeFrame s.par.kaPreamble s.rxLenIn s.inp.rxFrame = .ok i →
    exec .decode s = exec i s ∧ i.wellFormed s.par.kaPreamble = true

/-- R105, R106, R110, R179, R222 (log 6): what the three frame rows write. -/
def Obligations.FrameRowsWriteTheirResults : Prop :=
  ∀ (s : State) (keys : BitVec 8) (x y : BitVec 16) (p : BitVec 40) (pre : Byte),
    exec (.frameStatus keys x y) s = .next { s with
        decCode := .status
        decKeys := keys
        decX := x
        decY := y
        seen := true
        lastSeen := s.nowIn
        expired := false } ∧
      exec (.frameKeepalive p) s = .next { s with
        decCode := .keepalive
        seen := true
        lastSeen := s.nowIn
        expired := false } ∧
      exec (.frameUnknown pre p) s = .next { s with decCode := .unknownFrameType }

/-- R178: the codes on `dec_code_o`; 6 and 7 never appear. -/
def Obligations.DecodeResultCodes : Prop :=
  ∀ s : State,
    (s.decCode = .none → s.outputs.decCode = 0#3) ∧ (s.decCode = .status → s.outputs.decCode = 1#3) ∧
      (s.decCode = .keepalive → s.outputs.decCode = 2#3) ∧ (s.decCode = .lengthError → s.outputs.decCode = 3#3) ∧
      (s.decCode = .checksumError → s.outputs.decCode = 4#3) ∧
      (s.decCode = .unknownFrameType → s.outputs.decCode = 5#3) ∧
      s.outputs.decCode ≠ 6#3 ∧ s.outputs.decCode ≠ 7#3

/-- R181: what the encoder makes decodes to what was encoded, and distinct InputStates give distinct frames. -/
def Obligations.CodecRoundTrip : Prop :=
  ∀ kaPre : Byte, kaPre ≠ 0xAA#8 →
    (∀ (k : BitVec 5) (x y : BitVec 10),
      dec kaPre 7 (encS k x y) = .status (k.setWidth 8) (x.setWidth 16) (y.setWidth 16)) ∧
      dec kaPre 7 (encK kaPre) = .keepalive ∧
      ∀ (k k' : BitVec 5) (x x' y y' : BitVec 10), encS k x y = encS k' x' y' → k = k' ∧ x = x' ∧ y = y'

/-- R171: a frame passes the checksum test exactly when all seven bytes fold to 0. -/
def Obligations.ChecksumTestIsTheSevenByteFold : Prop :=
  ∀ f : Frame, cks6 f = byteOf f 6 ↔ xorfold (firstBytes f 7) = 0#8

/-- R180: an error pattern on a frame that passes the checksum test goes undetected exactly when its own bytes fold to 0. -/
def Obligations.UndetectedErrorPatterns : Prop :=
  ∀ f e : Frame, cks6 f = byteOf f 6 →
    (cks6 (f ^^^ e) = byteOf (f ^^^ e) 6 ↔ xorfold (firstBytes e 7) = 0#8)

/-- R180: changing one byte of a valid frame, or one bit, gives CHECKSUM_ERROR whatever the build. -/
def Obligations.OneByteErrorsAreDetected : Prop :=
  ∀ (kaPre : Byte) (f : Frame), cks6 f = byteOf f 6 →
    (∀ (e : Frame) (k : Nat), k < 7 → byteOf e k ≠ 0#8 → (∀ j, j < 7 → j ≠ k → byteOf e j = 0#8) →
      dec kaPre 7 (f ^^^ e) = .checksumError) ∧
      ∀ i, i < 56 → dec kaPre 7 (f ^^^ BitVec.twoPow 56 i) = .checksumError

/-- R180: the checksum detects no reordering of the seven bytes. -/
def Obligations.ReorderingIsNotDetected : Prop :=
  ∀ f g : Frame, (firstBytes g 7).Perm (firstBytes f 7) → cks6 f = byteOf f 6 → cks6 g = byteOf g 6

/-- R280: a receiver built with another KA_PREAMBLE reports the transmitter's Keepalive as UNKNOWN_FRAME_TYPE. -/
def Obligations.OtherPreambleIsUnknown : Prop :=
  ∀ s : State, ∀ p : Byte, p ≠ 0xAA#8 → p ≠ s.par.kaPreamble → s.rxLenIn = 7 → s.inp.rxFrame = encK p →
    exec .decode s = .next { s with decCode := .unknownFrameType }

/-- R88: bytes at or past the delivered length have no effect on DECODE or CHECKSUM. -/
def Obligations.UndeliveredBytesHaveNoEffect : Prop :=
  ∀ (s t : State) (g : Frame), (∀ k, k < s.rxLenIn → k < 7 → byteOf g k = byteOf s.inp.rxFrame k) →
    (exec .decode s = .next t →
      exec .decode { s with inp := { s.inp with rxFrame := g } } =
        .next { t with inp := { t.inp with rxFrame := g } }) ∧
      (exec .checksum s = .next t →
        exec .checksum { s with inp := { s.inp with rxFrame := g } } =
          .next { t with inp := { t.inp with rxFrame := g } })

/-! ### Transmit scheduler -/

/-- R202: KA_STEP. -/
def Obligations.KeepaliveCounterStep : Prop :=
  ∀ s : State,
    (max s.kaIntervalIn 1 ≤ s.kaCnt + 1 → s.kaStep = ({ s with kaCnt := 0 }, true)) ∧
      (s.kaCnt + 1 < max s.kaIntervalIn 1 → s.kaStep = ({ s with kaCnt := s.kaCnt + 1 }, false))

/-- R200, R201, R202: TX_TICK at its accepting edge: pending with a button pressed; else the whole tick, with its change
test, its frame, its counter and its next phase. -/
def Obligations.TxTickAtItsAcceptingEdge : Prop :=
  ∀ s : State,
    (s.inp.btnRaw ≠ 0b11111#5 → ∃ d : PerButton Button,
      exec .txTick s = .next { s with dbn := d, seq := .ttWait } ∧
        ∀ i : Fin 5, d.get i =
          if s.inp.btnRaw.getLsbD i.val then { level := true, phase := .idle, count := 0 }
          else { level := false, phase := .wait, count := s.par.debounceCycles }) ∧
      (s.inp.btnRaw = 0b11111#5 →
        let change : Bool :=
          !s.curValid || decide (s.curKeys ≠ 0#5) ||
            decide (s.inp.thrX.toNat < ((s.inp.axisX.toNat : Int) - s.curX.toNat).natAbs) ||
            decide (s.inp.thrY.toNat < ((s.inp.axisY.toNat : Int) - s.curY.toNat).natAbs)
        let due : Bool := decide (max s.kaIntervalIn 1 ≤ s.kaCnt + 1)
        ∃ d : PerButton Button, (∀ i : Fin 5, d.get i = { level := true, phase := .idle, count := 0 }) ∧
          exec .txTick s = .next { s with
            dbn := d
            sampledKeys := 0#5
            changed := change
            curKeys := if change then 0#5 else s.curKeys
            curX := if change then s.inp.axisX else s.curX
            curY := if change then s.inp.axisY else s.curY
            curValid := change || s.curValid
            kaCnt := if due then 0 else s.kaCnt + 1
            frameOut :=
              if change then encS 0#5 s.inp.axisX s.inp.axisY
              else if due then encK s.par.kaPreamble else s.frameOut
            txStb := change || due || s.txStb
            seq := if change && due then .ttKa else .idle })

/-- R203: the keepalive slot, with ILLEGAL_STB's return (R56) and the expiry (R223) of that edge. The clauses for `inp` and
`sched` are the model's choice of how the ports advance (log 4), no rule of the spec. -/
def Obligations.KeepaliveSlotSendsTheOwedFrame : Prop :=
  ∀ s : State, s.par.legal = true → s.inp.rst = false → s.seq = .ttKa →
    step s = .next { s with
      frameOut := encK s.par.kaPreamble
      txStb := true
      illegalStb := false
      seq := .idle
      expired := s.expired || (s.seen && decide (s.timeoutIn < s.delta s.nowIn))
      inp := s.sched.head?.getD s.inp
      sched := s.sched.tail }

/-- R200, R201, R282: a TX_TICK accepted with a button pressed is busy for DEBOUNCE_CYCLES cycles, in which it sends
nothing and stores nothing; its completing edge takes the keys both reads saw and the axis ports of that edge. -/
def Obligations.TxTickWithAPressCompletesLater : Prop :=
  ∀ (σ : Nat → State) (d : Nat), (σ 0).par.debounceCycles = d → Runs σ (d + 1) →
    (∀ k, k ≤ d → (σ k).inp.rst = false) →
    (σ 0).seq = .idle → (σ 0).inp.opValid = true → (σ 0).inp.op = 0x7#4 → (σ 0).inp.btnRaw ≠ 0b11111#5 →
    let keys := ~~~(σ 0).inp.btnRaw &&& ~~~(σ d).inp.btnRaw
    let x := (σ d).inp.axisX
    let y := (σ d).inp.axisY
    let change := (σ d).hcTest keys x y
    let due := (σ d).kaDue
    let u := σ (d + 1)
    (∀ k, 1 ≤ k → k ≤ d → (σ k).outputs.ready = false ∧ (σ k).txStb = false ∧
      (σ k).sampledKeys = (σ 0).sampledKeys ∧ (σ k).curValid = (σ 0).curValid ∧ (σ k).curKeys = (σ 0).curKeys ∧
      (σ k).curX = (σ 0).curX ∧ (σ k).curY = (σ 0).curY ∧ (σ k).changed = (σ 0).changed ∧
      (σ k).kaCnt = (σ 0).kaCnt ∧ (σ k).frameOut = (σ 0).frameOut) ∧
      u.sampledKeys = keys ∧ u.changed = change ∧ u.curValid = (change || (σ 0).curValid) ∧
      u.curKeys = (if change then keys else (σ 0).curKeys) ∧ u.curX = (if change then x else (σ 0).curX) ∧
      u.curY = (if change then y else (σ 0).curY) ∧ u.kaCnt = (if due then 0 else (σ 0).kaCnt + 1) ∧
      u.txStb = (change || due) ∧
      u.frameOut = (if change then encS keys x y else if due then encK u.par.kaPreamble else (σ 0).frameOut) ∧
      u.seq = (if change && due then .ttKa else .idle)

/-- R207: a tick that sends two frames offers the Status frame in one cycle, with `ready_o = 0`, and the Keepalive in the
next. -/
def Obligations.TwoFramesInConsecutiveCycles : Prop :=
  ∀ s t u : State, s.completesTick = true → step s = .next t → t.seq = .ttKa → t.inp.rst = false → step t = .next u →
    t.outputs.txValid = true ∧ t.outputs.ready = false ∧ t.outputs.txFrame = encS t.curKeys t.curX t.curY ∧
      u.outputs.txValid = true ∧ u.outputs.ready = true ∧ u.outputs.txFrame = encK s.par.kaPreamble

/-- R204, R205, R206: from a cleared counter, with a constant interval and no reset, tick number n sends a Keepalive exactly
when the interval (0 acting as 1) divides n, whatever other operations run and whatever the Status traffic; a tick that
reports a change also sends its Status frame; a tick with neither sends nothing. -/
def Obligations.KeepaliveEveryIntervalTicks : Prop :=
  ∀ (σ : Nat → State) (n iv : Nat), Runs σ n → (∀ k, k < n → (σ k).inp.rst = false) →
    (∀ k, k < n → max (σ k).kaIntervalIn 1 = iv) → (σ 0).kaCnt = 0 →
    ∀ k, k < n → (σ k).completesTick = true →
      let t := σ (k + 1)
      (iv ∣ ticksDone σ k + 1 →
        t.txStb = true ∧
          (t.changed = false → t.frameOut = encK t.par.kaPreamble ∧ t.seq = .idle) ∧
          (t.changed = true → t.frameOut = encS t.curKeys t.curX t.curY ∧ t.seq = .ttKa)) ∧
        (¬ iv ∣ ticksDone σ k + 1 →
          t.seq = .idle ∧
            (t.changed = false → t.txStb = false ∧ t.frameOut = (σ k).frameOut) ∧
            (t.changed = true → t.txStb = true ∧ t.frameOut = encS t.curKeys t.curX t.curY))

/-- R95, R148: a lost Status frame is not sent again while the input stays. First, two ticks on the same ports with no button
pressed, as exec makes their writes (in the second, `t` may hold SEQ = TT_KA, where step would not ask exec: log 15). Then
over every run of edges on which the buttons, the axes and the thresholds are held, pressed buttons included, and whatever
operations run: of two ticks the later one finds no change and keeps what the first left stored, and it writes no Status
frame: FRAME_OUT takes the Keepalive if one is due, and else its value stays. -/
def Obligations.UnchangedInputIsNotSentAgain : Prop :=
  (∀ s t u : State, s.inp.btnRaw = 0b11111#5 → exec .txTick s = .next t → exec .txTick t = .next u →
    let due : Bool := decide (max t.kaIntervalIn 1 ≤ t.kaCnt + 1)
    u.changed = false ∧ u.curKeys = t.curKeys ∧ u.curX = t.curX ∧ u.curY = t.curY ∧
      u.frameOut = (if due then encK t.par.kaPreamble else t.frameOut) ∧ u.txStb = (due || t.txStb) ∧
      u.seq = .idle) ∧
    ∀ (σ : Nat → State) (n : Nat) (b : BitVec 5) (x y tx ty : BitVec 10), Runs σ n → (σ 0).seq = .idle →
      (∀ k, k < n → (σ k).inp.rst = false ∧ (σ k).inp.btnRaw = b ∧ (σ k).inp.axisX = x ∧ (σ k).inp.axisY = y ∧
        (σ k).inp.thrX = tx ∧ (σ k).inp.thrY = ty) →
      ∀ j k, j < k → k < n → (σ j).completesTick = true → (σ k).completesTick = true →
        let first := σ (j + 1)
        let later := σ (k + 1)
        let due : Bool := decide (max (σ k).kaIntervalIn 1 ≤ (σ k).kaCnt + 1)
        later.changed = false ∧ later.curKeys = first.curKeys ∧ later.curX = first.curX ∧
          later.curY = first.curY ∧
          later.frameOut = (if due then encK later.par.kaPreamble else (σ k).frameOut) ∧ later.txStb = due ∧
          later.seq = .idle

/-! ### Link supervisor -/

/-- R220: DELTA is the difference modulo 2^T_W. -/
def Obligations.DeltaIsTheModularDifference : Prop :=
  ∀ (s : State) (t : Nat), s.lastSeen < 2 ^ s.par.tW →
    (s.delta t : Int) = ((t : Int) - s.lastSeen) % 2 ^ s.par.tW

/-- R221, R224: IS_ALIVE, code 0x8, captures the comparator, which is `alive_o` in the cycle that ends at its edge. -/
def Obligations.IsAliveCapturesTheComparator : Prop :=
  decodeCommand 0x8#4 = .isAlive ∧ ∀ s : State,
    s.outputs.alive = (s.seen && !s.expired && decide (s.delta s.nowIn ≤ s.timeoutIn)) ∧
      exec .isAlive s = .next { s with aliveR := s.outputs.alive }

/-- R222, R227: a step refreshes the supervisor exactly when it accepts a DECODE of a good frame: of length 7, checksum
valid, with a known preamble. No other edge but a reset writes SEEN or LAST_SEEN. -/
def Obligations.OnlyGoodFramesRefresh : Prop :=
  ∀ s t : State, step s = .next t → s.inp.rst = false →
    let f := s.inp.rxFrame
    let good : Prop := s.seq = .idle ∧ s.inp.opValid = true ∧ s.inp.op = 0x5#4 ∧ s.rxLenIn = 7 ∧
      cks6 f = byteOf f 6 ∧ (byteOf f 0 = 0xAA#8 ∨ byteOf f 0 = s.par.kaPreamble)
    (good → t.seen = true ∧ t.lastSeen = s.nowIn ∧ t.expired = false) ∧
      (¬ good → t.seen = s.seen ∧ t.lastSeen = s.lastSeen)

/-- R223: the expiry at every edge but a reset edge, after the edge's own writes; a refresh wins. -/
def Obligations.ExpiryAtEveryEdge : Prop :=
  ∀ s t : State, step s = .next t → s.inp.rst = false →
    t.expired =
      if s.refreshes then false
      else if s.seen && !s.expired && decide (s.timeoutIn < s.delta s.nowIn) then true
      else s.expired

/-- R226: before the first good frame `alive_o` is 0 and IS_ALIVE gives 0, whatever the time and the timeout. -/
def Obligations.NotAliveBeforeTheFirstGoodFrame : Prop :=
  ∀ s : State, s.seen = false →
    s.outputs.alive = false ∧ exec .isAlive s = .next { s with aliveR := false }

/-- R225: over any run without an earlier good frame, while the host keeps the step bound of R278 and a constant timeout,
`alive_o` is the document's formula on unbounded time: the time since the last good frame is at most the timeout. -/
def Obligations.AliveIsExactOnUnboundedTime : Prop :=
  ∀ (σ : Nat → State) (n : Nat) (time : Nat → Nat) (timeout : Nat), Runs σ n → (σ 0).seen = false →
    (∀ k, k ≤ n → (σ k).nowIn = time k % 2 ^ (σ 0).par.tW ∧ (σ k).timeoutIn = timeout) →
    (∀ k, k < n → time k ≤ time (k + 1) ∧ timeout + (time (k + 1) - time k) < 2 ^ (σ 0).par.tW) →
    ∀ k, k ≤ n →
      ((σ k).outputs.alive = true ↔ ∃ j, lastGood σ k = some j ∧ time k - time j ≤ timeout)

/-! ### Whole machine -/

/-- R39 to R43, R61: every output but `alive_o` is a register or a function of registers alone. -/
def Obligations.OutputsShowTheRegisters : Prop :=
  ∀ (s : State) (p : Inputs),
    s.outputs = {
      ready := decide (s.seq = .idle)
      txFrame := s.frameOut
      txValid := s.txStb
      sampledKeys := s.sampledKeys
      curKeys := s.curKeys
      curX := s.curX
      curY := s.curY
      changed := s.changed
      cks := s.cksResult
      decCode := s.decCode.toBits
      decKeys := s.decKeys
      decX := s.decX
      decY := s.decY
      illegal := s.illegalStb
      alive := s.seen && !s.expired && decide (s.delta s.nowIn ≤ s.timeoutIn)
      aliveR := s.aliveR
      seen := s.seen
      expired := s.expired
      lastSeen := s.lastSeen } ∧
      { ({ s with inp := p } : State).outputs with alive := s.outputs.alive } = s.outputs

/-- R46 to R57, R150, R222, R223: outside a reset edge, each register of R59 changes only at the edges of the rules that
write it; a strobe is 0 after every other edge. -/
def Obligations.EachRegisterHasItsWriters : Prop :=
  ∀ s t : State, step s = .next t → s.inp.rst = false →
    (s.accepted ≠ some .sampleButtons → s.accepted ≠ some .txTick → ¬ s.sampling →
      t.dbn = s.dbn ∧ t.sampledKeys = s.sampledKeys) ∧
      (s.accepted ≠ some .hasChanged → s.completesTick = false →
        t.curValid = s.curValid ∧ t.curKeys = s.curKeys ∧ t.curX = s.curX ∧ t.curY = s.curY ∧ t.changed = s.changed) ∧
      (s.completesTick = false → t.kaCnt = s.kaCnt) ∧
      (s.accepted ≠ some .checksum → t.cksResult = s.cksResult) ∧
      (s.accepted ≠ some .decode → t.decCode = s.decCode ∧ t.decKeys = s.decKeys ∧ t.decX = s.decX ∧ t.decY = s.decY) ∧
      (s.accepted ≠ some .isAlive → t.aliveR = s.aliveR) ∧
      (s.seq = .idle → s.accepted ≠ some .sampleButtons → s.accepted ≠ some .txTick → t.seq = .idle) ∧
      (s.sampling → s.sampleDone = false → t.seq = s.seq) ∧
      (s.accepted ≠ some .encStatus → s.accepted ≠ some .encKeepalive → s.seq ≠ .ttKa → s.completesTick = false →
        t.frameOut = s.frameOut ∧ t.txStb = false) ∧
      ((∀ i, s.accepted = some i → i.isReserved = false) → t.illegalStb = false) ∧
      (s.refreshes = false → t.seen = s.seen ∧ t.lastSeen = s.lastSeen) ∧
      (s.refreshes = false → s.timedOut = false → t.expired = s.expired)

/-- R40, R52, R56: TX_STB is 1 after exactly the edges that send a frame, and FRAME_OUT changes at no other edge. -/
def Obligations.TransmitStrobeMarksSentFrames : Prop :=
  ∀ s t : State, step s = .next t → s.inp.rst = false →
    (t.txStb = true ↔
      s.accepted = some .encStatus ∨ s.accepted = some .encKeepalive ∨ s.seq = .ttKa ∨
        (s.completesTick = true ∧ (t.changed = true ∨ max s.kaIntervalIn 1 ≤ s.kaCnt + 1))) ∧
      (t.txStb = false → t.frameOut = s.frameOut)

/-- R102, R274: while an operation is in flight, nothing depends on the command, argument and receive ports. -/
def Obligations.BusyBlockReadsNoCommand : Prop :=
  ∀ (s t : State) (v : Bool) (o : BitVec 4) (k : BitVec 5) (x y : BitVec 10) (n : Nat) (f : Frame),
    s.seq ≠ .idle → step s = .next t →
    ∃ p : Inputs,
      step { s with inp := { s.inp with
        opValid := v, op := o, argKeys := k, argX := x, argY := y, rxLen := n, rxFrame := f } } =
        .next { t with inp := p }

/-- R145, R281, R283: at an edge that accepts none of SAMPLE_BUTTONS, HAS_CHANGED and TX_TICK, and is no second read, nothing
depends on the buttons, the axes, the thresholds and the keepalive interval. -/
def Obligations.RawInputsAreReadOnlyAtTheirEdges : Prop :=
  ∀ (s t : State) (b : BitVec 5) (x y tx ty : BitVec 10) (iv : Nat),
    s.accepted ≠ some .sampleButtons → s.accepted ≠ some .hasChanged → s.accepted ≠ some .txTick →
    (s.sampling → s.sampleDone = false ∧ ∀ i : Fin 5, (s.dbn.get i).atSecondRead = false) →
    step s = .next t →
    ∃ p : Inputs,
      step { s with inp := { s.inp with
        btnRaw := b, axisX := x, axisY := y, thrX := tx, thrY := ty, kaInterval := iv } } = .next { t with inp := p }

/-- The invariant of Safety.lean holds of State.reset, whatever DEBOUNCE_CYCLES its build has. -/
def Obligations.InvariantHoldsAtReset : Prop := State.reset.Inv

/-- R47, R51, R56, R107, R144, R202, R226: every step from a state that meets the invariant gives one that meets it. -/
def Obligations.EveryStepKeepsTheInvariant : Prop :=
  ∀ s t : State, s.Inv → step s = .next t → t.Inv
end

