-- ==== Sys2Proof/Laws/State.lean ====
section
/-!
SUPPORT. One lemma for each field of State under each single write of Machine/Ops.lean, so that no proof unfolds a
record update.
-/

namespace Sys2Proof.Machine

variable (s : State)

/-! ### returnStrobes -/

@[simp] theorem State.returnStrobes_par : (s.returnStrobes).par = s.par := rfl
@[simp] theorem State.returnStrobes_inp : (s.returnStrobes).inp = s.inp := rfl
@[simp] theorem State.returnStrobes_sched : (s.returnStrobes).sched = s.sched := rfl
@[simp] theorem State.returnStrobes_seq : (s.returnStrobes).seq = s.seq := rfl
@[simp] theorem State.returnStrobes_dbn : (s.returnStrobes).dbn = s.dbn := rfl
@[simp] theorem State.returnStrobes_sampledKeys : (s.returnStrobes).sampledKeys = s.sampledKeys := rfl
@[simp] theorem State.returnStrobes_curValid : (s.returnStrobes).curValid = s.curValid := rfl
@[simp] theorem State.returnStrobes_curKeys : (s.returnStrobes).curKeys = s.curKeys := rfl
@[simp] theorem State.returnStrobes_curX : (s.returnStrobes).curX = s.curX := rfl
@[simp] theorem State.returnStrobes_curY : (s.returnStrobes).curY = s.curY := rfl
@[simp] theorem State.returnStrobes_changed : (s.returnStrobes).changed = s.changed := rfl
@[simp] theorem State.returnStrobes_kaCnt : (s.returnStrobes).kaCnt = s.kaCnt := rfl
@[simp] theorem State.returnStrobes_frameOut : (s.returnStrobes).frameOut = s.frameOut := rfl
@[simp] theorem State.returnStrobes_txStb : (s.returnStrobes).txStb = false := rfl
@[simp] theorem State.returnStrobes_illegalStb : (s.returnStrobes).illegalStb = false := rfl
@[simp] theorem State.returnStrobes_cksResult : (s.returnStrobes).cksResult = s.cksResult := rfl
@[simp] theorem State.returnStrobes_decCode : (s.returnStrobes).decCode = s.decCode := rfl
@[simp] theorem State.returnStrobes_decKeys : (s.returnStrobes).decKeys = s.decKeys := rfl
@[simp] theorem State.returnStrobes_decX : (s.returnStrobes).decX = s.decX := rfl
@[simp] theorem State.returnStrobes_decY : (s.returnStrobes).decY = s.decY := rfl
@[simp] theorem State.returnStrobes_seen : (s.returnStrobes).seen = s.seen := rfl
@[simp] theorem State.returnStrobes_lastSeen : (s.returnStrobes).lastSeen = s.lastSeen := rfl
@[simp] theorem State.returnStrobes_expired : (s.returnStrobes).expired = s.expired := rfl
@[simp] theorem State.returnStrobes_aliveR : (s.returnStrobes).aliveR = s.aliveR := rfl

/-! ### sendFrame -/

@[simp] theorem State.sendFrame_par (f : Frame) : (s.sendFrame f).par = s.par := rfl
@[simp] theorem State.sendFrame_inp (f : Frame) : (s.sendFrame f).inp = s.inp := rfl
@[simp] theorem State.sendFrame_sched (f : Frame) : (s.sendFrame f).sched = s.sched := rfl
@[simp] theorem State.sendFrame_seq (f : Frame) : (s.sendFrame f).seq = s.seq := rfl
@[simp] theorem State.sendFrame_dbn (f : Frame) : (s.sendFrame f).dbn = s.dbn := rfl
@[simp] theorem State.sendFrame_sampledKeys (f : Frame) : (s.sendFrame f).sampledKeys = s.sampledKeys := rfl
@[simp] theorem State.sendFrame_curValid (f : Frame) : (s.sendFrame f).curValid = s.curValid := rfl
@[simp] theorem State.sendFrame_curKeys (f : Frame) : (s.sendFrame f).curKeys = s.curKeys := rfl
@[simp] theorem State.sendFrame_curX (f : Frame) : (s.sendFrame f).curX = s.curX := rfl
@[simp] theorem State.sendFrame_curY (f : Frame) : (s.sendFrame f).curY = s.curY := rfl
@[simp] theorem State.sendFrame_changed (f : Frame) : (s.sendFrame f).changed = s.changed := rfl
@[simp] theorem State.sendFrame_kaCnt (f : Frame) : (s.sendFrame f).kaCnt = s.kaCnt := rfl
@[simp] theorem State.sendFrame_frameOut (f : Frame) : (s.sendFrame f).frameOut = f := rfl
@[simp] theorem State.sendFrame_txStb (f : Frame) : (s.sendFrame f).txStb = true := rfl
@[simp] theorem State.sendFrame_illegalStb (f : Frame) : (s.sendFrame f).illegalStb = s.illegalStb := rfl
@[simp] theorem State.sendFrame_cksResult (f : Frame) : (s.sendFrame f).cksResult = s.cksResult := rfl
@[simp] theorem State.sendFrame_decCode (f : Frame) : (s.sendFrame f).decCode = s.decCode := rfl
@[simp] theorem State.sendFrame_decKeys (f : Frame) : (s.sendFrame f).decKeys = s.decKeys := rfl
@[simp] theorem State.sendFrame_decX (f : Frame) : (s.sendFrame f).decX = s.decX := rfl
@[simp] theorem State.sendFrame_decY (f : Frame) : (s.sendFrame f).decY = s.decY := rfl
@[simp] theorem State.sendFrame_seen (f : Frame) : (s.sendFrame f).seen = s.seen := rfl
@[simp] theorem State.sendFrame_lastSeen (f : Frame) : (s.sendFrame f).lastSeen = s.lastSeen := rfl
@[simp] theorem State.sendFrame_expired (f : Frame) : (s.sendFrame f).expired = s.expired := rfl
@[simp] theorem State.sendFrame_aliveR (f : Frame) : (s.sendFrame f).aliveR = s.aliveR := rfl

/-! ### raiseIllegal -/

@[simp] theorem State.raiseIllegal_par : (s.raiseIllegal).par = s.par := rfl
@[simp] theorem State.raiseIllegal_inp : (s.raiseIllegal).inp = s.inp := rfl
@[simp] theorem State.raiseIllegal_sched : (s.raiseIllegal).sched = s.sched := rfl
@[simp] theorem State.raiseIllegal_seq : (s.raiseIllegal).seq = s.seq := rfl
@[simp] theorem State.raiseIllegal_dbn : (s.raiseIllegal).dbn = s.dbn := rfl
@[simp] theorem State.raiseIllegal_sampledKeys : (s.raiseIllegal).sampledKeys = s.sampledKeys := rfl
@[simp] theorem State.raiseIllegal_curValid : (s.raiseIllegal).curValid = s.curValid := rfl
@[simp] theorem State.raiseIllegal_curKeys : (s.raiseIllegal).curKeys = s.curKeys := rfl
@[simp] theorem State.raiseIllegal_curX : (s.raiseIllegal).curX = s.curX := rfl
@[simp] theorem State.raiseIllegal_curY : (s.raiseIllegal).curY = s.curY := rfl
@[simp] theorem State.raiseIllegal_changed : (s.raiseIllegal).changed = s.changed := rfl
@[simp] theorem State.raiseIllegal_kaCnt : (s.raiseIllegal).kaCnt = s.kaCnt := rfl
@[simp] theorem State.raiseIllegal_frameOut : (s.raiseIllegal).frameOut = s.frameOut := rfl
@[simp] theorem State.raiseIllegal_txStb : (s.raiseIllegal).txStb = s.txStb := rfl
@[simp] theorem State.raiseIllegal_illegalStb : (s.raiseIllegal).illegalStb = true := rfl
@[simp] theorem State.raiseIllegal_cksResult : (s.raiseIllegal).cksResult = s.cksResult := rfl
@[simp] theorem State.raiseIllegal_decCode : (s.raiseIllegal).decCode = s.decCode := rfl
@[simp] theorem State.raiseIllegal_decKeys : (s.raiseIllegal).decKeys = s.decKeys := rfl
@[simp] theorem State.raiseIllegal_decX : (s.raiseIllegal).decX = s.decX := rfl
@[simp] theorem State.raiseIllegal_decY : (s.raiseIllegal).decY = s.decY := rfl
@[simp] theorem State.raiseIllegal_seen : (s.raiseIllegal).seen = s.seen := rfl
@[simp] theorem State.raiseIllegal_lastSeen : (s.raiseIllegal).lastSeen = s.lastSeen := rfl
@[simp] theorem State.raiseIllegal_expired : (s.raiseIllegal).expired = s.expired := rfl
@[simp] theorem State.raiseIllegal_aliveR : (s.raiseIllegal).aliveR = s.aliveR := rfl

/-! ### setSeq -/

@[simp] theorem State.setSeq_par (q : SeqPhase) : (s.setSeq q).par = s.par := rfl
@[simp] theorem State.setSeq_inp (q : SeqPhase) : (s.setSeq q).inp = s.inp := rfl
@[simp] theorem State.setSeq_sched (q : SeqPhase) : (s.setSeq q).sched = s.sched := rfl
@[simp] theorem State.setSeq_seq (q : SeqPhase) : (s.setSeq q).seq = q := rfl
@[simp] theorem State.setSeq_dbn (q : SeqPhase) : (s.setSeq q).dbn = s.dbn := rfl
@[simp] theorem State.setSeq_sampledKeys (q : SeqPhase) : (s.setSeq q).sampledKeys = s.sampledKeys := rfl
@[simp] theorem State.setSeq_curValid (q : SeqPhase) : (s.setSeq q).curValid = s.curValid := rfl
@[simp] theorem State.setSeq_curKeys (q : SeqPhase) : (s.setSeq q).curKeys = s.curKeys := rfl
@[simp] theorem State.setSeq_curX (q : SeqPhase) : (s.setSeq q).curX = s.curX := rfl
@[simp] theorem State.setSeq_curY (q : SeqPhase) : (s.setSeq q).curY = s.curY := rfl
@[simp] theorem State.setSeq_changed (q : SeqPhase) : (s.setSeq q).changed = s.changed := rfl
@[simp] theorem State.setSeq_kaCnt (q : SeqPhase) : (s.setSeq q).kaCnt = s.kaCnt := rfl
@[simp] theorem State.setSeq_frameOut (q : SeqPhase) : (s.setSeq q).frameOut = s.frameOut := rfl
@[simp] theorem State.setSeq_txStb (q : SeqPhase) : (s.setSeq q).txStb = s.txStb := rfl
@[simp] theorem State.setSeq_illegalStb (q : SeqPhase) : (s.setSeq q).illegalStb = s.illegalStb := rfl
@[simp] theorem State.setSeq_cksResult (q : SeqPhase) : (s.setSeq q).cksResult = s.cksResult := rfl
@[simp] theorem State.setSeq_decCode (q : SeqPhase) : (s.setSeq q).decCode = s.decCode := rfl
@[simp] theorem State.setSeq_decKeys (q : SeqPhase) : (s.setSeq q).decKeys = s.decKeys := rfl
@[simp] theorem State.setSeq_decX (q : SeqPhase) : (s.setSeq q).decX = s.decX := rfl
@[simp] theorem State.setSeq_decY (q : SeqPhase) : (s.setSeq q).decY = s.decY := rfl
@[simp] theorem State.setSeq_seen (q : SeqPhase) : (s.setSeq q).seen = s.seen := rfl
@[simp] theorem State.setSeq_lastSeen (q : SeqPhase) : (s.setSeq q).lastSeen = s.lastSeen := rfl
@[simp] theorem State.setSeq_expired (q : SeqPhase) : (s.setSeq q).expired = s.expired := rfl
@[simp] theorem State.setSeq_aliveR (q : SeqPhase) : (s.setSeq q).aliveR = s.aliveR := rfl

/-! ### setDbn -/

@[simp] theorem State.setDbn_par (d : PerButton Button) : (s.setDbn d).par = s.par := rfl
@[simp] theorem State.setDbn_inp (d : PerButton Button) : (s.setDbn d).inp = s.inp := rfl
@[simp] theorem State.setDbn_sched (d : PerButton Button) : (s.setDbn d).sched = s.sched := rfl
@[simp] theorem State.setDbn_seq (d : PerButton Button) : (s.setDbn d).seq = s.seq := rfl
@[simp] theorem State.setDbn_dbn (d : PerButton Button) : (s.setDbn d).dbn = d := rfl
@[simp] theorem State.setDbn_sampledKeys (d : PerButton Button) : (s.setDbn d).sampledKeys = s.sampledKeys := rfl
@[simp] theorem State.setDbn_curValid (d : PerButton Button) : (s.setDbn d).curValid = s.curValid := rfl
@[simp] theorem State.setDbn_curKeys (d : PerButton Button) : (s.setDbn d).curKeys = s.curKeys := rfl
@[simp] theorem State.setDbn_curX (d : PerButton Button) : (s.setDbn d).curX = s.curX := rfl
@[simp] theorem State.setDbn_curY (d : PerButton Button) : (s.setDbn d).curY = s.curY := rfl
@[simp] theorem State.setDbn_changed (d : PerButton Button) : (s.setDbn d).changed = s.changed := rfl
@[simp] theorem State.setDbn_kaCnt (d : PerButton Button) : (s.setDbn d).kaCnt = s.kaCnt := rfl
@[simp] theorem State.setDbn_frameOut (d : PerButton Button) : (s.setDbn d).frameOut = s.frameOut := rfl
@[simp] theorem State.setDbn_txStb (d : PerButton Button) : (s.setDbn d).txStb = s.txStb := rfl
@[simp] theorem State.setDbn_illegalStb (d : PerButton Button) : (s.setDbn d).illegalStb = s.illegalStb := rfl
@[simp] theorem State.setDbn_cksResult (d : PerButton Button) : (s.setDbn d).cksResult = s.cksResult := rfl
@[simp] theorem State.setDbn_decCode (d : PerButton Button) : (s.setDbn d).decCode = s.decCode := rfl
@[simp] theorem State.setDbn_decKeys (d : PerButton Button) : (s.setDbn d).decKeys = s.decKeys := rfl
@[simp] theorem State.setDbn_decX (d : PerButton Button) : (s.setDbn d).decX = s.decX := rfl
@[simp] theorem State.setDbn_decY (d : PerButton Button) : (s.setDbn d).decY = s.decY := rfl
@[simp] theorem State.setDbn_seen (d : PerButton Button) : (s.setDbn d).seen = s.seen := rfl
@[simp] theorem State.setDbn_lastSeen (d : PerButton Button) : (s.setDbn d).lastSeen = s.lastSeen := rfl
@[simp] theorem State.setDbn_expired (d : PerButton Button) : (s.setDbn d).expired = s.expired := rfl
@[simp] theorem State.setDbn_aliveR (d : PerButton Button) : (s.setDbn d).aliveR = s.aliveR := rfl

/-! ### setSampled -/

@[simp] theorem State.setSampled_par (k : BitVec 5) : (s.setSampled k).par = s.par := rfl
@[simp] theorem State.setSampled_inp (k : BitVec 5) : (s.setSampled k).inp = s.inp := rfl
@[simp] theorem State.setSampled_sched (k : BitVec 5) : (s.setSampled k).sched = s.sched := rfl
@[simp] theorem State.setSampled_seq (k : BitVec 5) : (s.setSampled k).seq = s.seq := rfl
@[simp] theorem State.setSampled_dbn (k : BitVec 5) : (s.setSampled k).dbn = s.dbn := rfl
@[simp] theorem State.setSampled_sampledKeys (k : BitVec 5) : (s.setSampled k).sampledKeys = k := rfl
@[simp] theorem State.setSampled_curValid (k : BitVec 5) : (s.setSampled k).curValid = s.curValid := rfl
@[simp] theorem State.setSampled_curKeys (k : BitVec 5) : (s.setSampled k).curKeys = s.curKeys := rfl
@[simp] theorem State.setSampled_curX (k : BitVec 5) : (s.setSampled k).curX = s.curX := rfl
@[simp] theorem State.setSampled_curY (k : BitVec 5) : (s.setSampled k).curY = s.curY := rfl
@[simp] theorem State.setSampled_changed (k : BitVec 5) : (s.setSampled k).changed = s.changed := rfl
@[simp] theorem State.setSampled_kaCnt (k : BitVec 5) : (s.setSampled k).kaCnt = s.kaCnt := rfl
@[simp] theorem State.setSampled_frameOut (k : BitVec 5) : (s.setSampled k).frameOut = s.frameOut := rfl
@[simp] theorem State.setSampled_txStb (k : BitVec 5) : (s.setSampled k).txStb = s.txStb := rfl
@[simp] theorem State.setSampled_illegalStb (k : BitVec 5) : (s.setSampled k).illegalStb = s.illegalStb := rfl
@[simp] theorem State.setSampled_cksResult (k : BitVec 5) : (s.setSampled k).cksResult = s.cksResult := rfl
@[simp] theorem State.setSampled_decCode (k : BitVec 5) : (s.setSampled k).decCode = s.decCode := rfl
@[simp] theorem State.setSampled_decKeys (k : BitVec 5) : (s.setSampled k).decKeys = s.decKeys := rfl
@[simp] theorem State.setSampled_decX (k : BitVec 5) : (s.setSampled k).decX = s.decX := rfl
@[simp] theorem State.setSampled_decY (k : BitVec 5) : (s.setSampled k).decY = s.decY := rfl
@[simp] theorem State.setSampled_seen (k : BitVec 5) : (s.setSampled k).seen = s.seen := rfl
@[simp] theorem State.setSampled_lastSeen (k : BitVec 5) : (s.setSampled k).lastSeen = s.lastSeen := rfl
@[simp] theorem State.setSampled_expired (k : BitVec 5) : (s.setSampled k).expired = s.expired := rfl
@[simp] theorem State.setSampled_aliveR (k : BitVec 5) : (s.setSampled k).aliveR = s.aliveR := rfl

/-! ### storeCurrent -/

@[simp] theorem State.storeCurrent_par (k : BitVec 5) (x y : BitVec 10) : (s.storeCurrent k x y).par = s.par := rfl
@[simp] theorem State.storeCurrent_inp (k : BitVec 5) (x y : BitVec 10) : (s.storeCurrent k x y).inp = s.inp := rfl
@[simp] theorem State.storeCurrent_sched (k : BitVec 5) (x y : BitVec 10) : (s.storeCurrent k x y).sched = s.sched := rfl
@[simp] theorem State.storeCurrent_seq (k : BitVec 5) (x y : BitVec 10) : (s.storeCurrent k x y).seq = s.seq := rfl
@[simp] theorem State.storeCurrent_dbn (k : BitVec 5) (x y : BitVec 10) : (s.storeCurrent k x y).dbn = s.dbn := rfl
@[simp] theorem State.storeCurrent_sampledKeys (k : BitVec 5) (x y : BitVec 10) : (s.storeCurrent k x y).sampledKeys = s.sampledKeys := rfl
@[simp] theorem State.storeCurrent_curValid (k : BitVec 5) (x y : BitVec 10) : (s.storeCurrent k x y).curValid = true := rfl
@[simp] theorem State.storeCurrent_curKeys (k : BitVec 5) (x y : BitVec 10) : (s.storeCurrent k x y).curKeys = k := rfl
@[simp] theorem State.storeCurrent_curX (k : BitVec 5) (x y : BitVec 10) : (s.storeCurrent k x y).curX = x := rfl
@[simp] theorem State.storeCurrent_curY (k : BitVec 5) (x y : BitVec 10) : (s.storeCurrent k x y).curY = y := rfl
@[simp] theorem State.storeCurrent_changed (k : BitVec 5) (x y : BitVec 10) : (s.storeCurrent k x y).changed = s.changed := rfl
@[simp] theorem State.storeCurrent_kaCnt (k : BitVec 5) (x y : BitVec 10) : (s.storeCurrent k x y).kaCnt = s.kaCnt := rfl
@[simp] theorem State.storeCurrent_frameOut (k : BitVec 5) (x y : BitVec 10) : (s.storeCurrent k x y).frameOut = s.frameOut := rfl
@[simp] theorem State.storeCurrent_txStb (k : BitVec 5) (x y : BitVec 10) : (s.storeCurrent k x y).txStb = s.txStb := rfl
@[simp] theorem State.storeCurrent_illegalStb (k : BitVec 5) (x y : BitVec 10) : (s.storeCurrent k x y).illegalStb = s.illegalStb := rfl
@[simp] theorem State.storeCurrent_cksResult (k : BitVec 5) (x y : BitVec 10) : (s.storeCurrent k x y).cksResult = s.cksResult := rfl
@[simp] theorem State.storeCurrent_decCode (k : BitVec 5) (x y : BitVec 10) : (s.storeCurrent k x y).decCode = s.decCode := rfl
@[simp] theorem State.storeCurrent_decKeys (k : BitVec 5) (x y : BitVec 10) : (s.storeCurrent k x y).decKeys = s.decKeys := rfl
@[simp] theorem State.storeCurrent_decX (k : BitVec 5) (x y : BitVec 10) : (s.storeCurrent k x y).decX = s.decX := rfl
@[simp] theorem State.storeCurrent_decY (k : BitVec 5) (x y : BitVec 10) : (s.storeCurrent k x y).decY = s.decY := rfl
@[simp] theorem State.storeCurrent_seen (k : BitVec 5) (x y : BitVec 10) : (s.storeCurrent k x y).seen = s.seen := rfl
@[simp] theorem State.storeCurrent_lastSeen (k : BitVec 5) (x y : BitVec 10) : (s.storeCurrent k x y).lastSeen = s.lastSeen := rfl
@[simp] theorem State.storeCurrent_expired (k : BitVec 5) (x y : BitVec 10) : (s.storeCurrent k x y).expired = s.expired := rfl
@[simp] theorem State.storeCurrent_aliveR (k : BitVec 5) (x y : BitVec 10) : (s.storeCurrent k x y).aliveR = s.aliveR := rfl

/-! ### setChanged -/

@[simp] theorem State.setChanged_par (b : Bool) : (s.setChanged b).par = s.par := rfl
@[simp] theorem State.setChanged_inp (b : Bool) : (s.setChanged b).inp = s.inp := rfl
@[simp] theorem State.setChanged_sched (b : Bool) : (s.setChanged b).sched = s.sched := rfl
@[simp] theorem State.setChanged_seq (b : Bool) : (s.setChanged b).seq = s.seq := rfl
@[simp] theorem State.setChanged_dbn (b : Bool) : (s.setChanged b).dbn = s.dbn := rfl
@[simp] theorem State.setChanged_sampledKeys (b : Bool) : (s.setChanged b).sampledKeys = s.sampledKeys := rfl
@[simp] theorem State.setChanged_curValid (b : Bool) : (s.setChanged b).curValid = s.curValid := rfl
@[simp] theorem State.setChanged_curKeys (b : Bool) : (s.setChanged b).curKeys = s.curKeys := rfl
@[simp] theorem State.setChanged_curX (b : Bool) : (s.setChanged b).curX = s.curX := rfl
@[simp] theorem State.setChanged_curY (b : Bool) : (s.setChanged b).curY = s.curY := rfl
@[simp] theorem State.setChanged_changed (b : Bool) : (s.setChanged b).changed = b := rfl
@[simp] theorem State.setChanged_kaCnt (b : Bool) : (s.setChanged b).kaCnt = s.kaCnt := rfl
@[simp] theorem State.setChanged_frameOut (b : Bool) : (s.setChanged b).frameOut = s.frameOut := rfl
@[simp] theorem State.setChanged_txStb (b : Bool) : (s.setChanged b).txStb = s.txStb := rfl
@[simp] theorem State.setChanged_illegalStb (b : Bool) : (s.setChanged b).illegalStb = s.illegalStb := rfl
@[simp] theorem State.setChanged_cksResult (b : Bool) : (s.setChanged b).cksResult = s.cksResult := rfl
@[simp] theorem State.setChanged_decCode (b : Bool) : (s.setChanged b).decCode = s.decCode := rfl
@[simp] theorem State.setChanged_decKeys (b : Bool) : (s.setChanged b).decKeys = s.decKeys := rfl
@[simp] theorem State.setChanged_decX (b : Bool) : (s.setChanged b).decX = s.decX := rfl
@[simp] theorem State.setChanged_decY (b : Bool) : (s.setChanged b).decY = s.decY := rfl
@[simp] theorem State.setChanged_seen (b : Bool) : (s.setChanged b).seen = s.seen := rfl
@[simp] theorem State.setChanged_lastSeen (b : Bool) : (s.setChanged b).lastSeen = s.lastSeen := rfl
@[simp] theorem State.setChanged_expired (b : Bool) : (s.setChanged b).expired = s.expired := rfl
@[simp] theorem State.setChanged_aliveR (b : Bool) : (s.setChanged b).aliveR = s.aliveR := rfl

/-! ### setKaCnt -/

@[simp] theorem State.setKaCnt_par (n : Nat) : (s.setKaCnt n).par = s.par := rfl
@[simp] theorem State.setKaCnt_inp (n : Nat) : (s.setKaCnt n).inp = s.inp := rfl
@[simp] theorem State.setKaCnt_sched (n : Nat) : (s.setKaCnt n).sched = s.sched := rfl
@[simp] theorem State.setKaCnt_seq (n : Nat) : (s.setKaCnt n).seq = s.seq := rfl
@[simp] theorem State.setKaCnt_dbn (n : Nat) : (s.setKaCnt n).dbn = s.dbn := rfl
@[simp] theorem State.setKaCnt_sampledKeys (n : Nat) : (s.setKaCnt n).sampledKeys = s.sampledKeys := rfl
@[simp] theorem State.setKaCnt_curValid (n : Nat) : (s.setKaCnt n).curValid = s.curValid := rfl
@[simp] theorem State.setKaCnt_curKeys (n : Nat) : (s.setKaCnt n).curKeys = s.curKeys := rfl
@[simp] theorem State.setKaCnt_curX (n : Nat) : (s.setKaCnt n).curX = s.curX := rfl
@[simp] theorem State.setKaCnt_curY (n : Nat) : (s.setKaCnt n).curY = s.curY := rfl
@[simp] theorem State.setKaCnt_changed (n : Nat) : (s.setKaCnt n).changed = s.changed := rfl
@[simp] theorem State.setKaCnt_kaCnt (n : Nat) : (s.setKaCnt n).kaCnt = n := rfl
@[simp] theorem State.setKaCnt_frameOut (n : Nat) : (s.setKaCnt n).frameOut = s.frameOut := rfl
@[simp] theorem State.setKaCnt_txStb (n : Nat) : (s.setKaCnt n).txStb = s.txStb := rfl
@[simp] theorem State.setKaCnt_illegalStb (n : Nat) : (s.setKaCnt n).illegalStb = s.illegalStb := rfl
@[simp] theorem State.setKaCnt_cksResult (n : Nat) : (s.setKaCnt n).cksResult = s.cksResult := rfl
@[simp] theorem State.setKaCnt_decCode (n : Nat) : (s.setKaCnt n).decCode = s.decCode := rfl
@[simp] theorem State.setKaCnt_decKeys (n : Nat) : (s.setKaCnt n).decKeys = s.decKeys := rfl
@[simp] theorem State.setKaCnt_decX (n : Nat) : (s.setKaCnt n).decX = s.decX := rfl
@[simp] theorem State.setKaCnt_decY (n : Nat) : (s.setKaCnt n).decY = s.decY := rfl
@[simp] theorem State.setKaCnt_seen (n : Nat) : (s.setKaCnt n).seen = s.seen := rfl
@[simp] theorem State.setKaCnt_lastSeen (n : Nat) : (s.setKaCnt n).lastSeen = s.lastSeen := rfl
@[simp] theorem State.setKaCnt_expired (n : Nat) : (s.setKaCnt n).expired = s.expired := rfl
@[simp] theorem State.setKaCnt_aliveR (n : Nat) : (s.setKaCnt n).aliveR = s.aliveR := rfl

/-! ### setCks -/

@[simp] theorem State.setCks_par (c : Byte) : (s.setCks c).par = s.par := rfl
@[simp] theorem State.setCks_inp (c : Byte) : (s.setCks c).inp = s.inp := rfl
@[simp] theorem State.setCks_sched (c : Byte) : (s.setCks c).sched = s.sched := rfl
@[simp] theorem State.setCks_seq (c : Byte) : (s.setCks c).seq = s.seq := rfl
@[simp] theorem State.setCks_dbn (c : Byte) : (s.setCks c).dbn = s.dbn := rfl
@[simp] theorem State.setCks_sampledKeys (c : Byte) : (s.setCks c).sampledKeys = s.sampledKeys := rfl
@[simp] theorem State.setCks_curValid (c : Byte) : (s.setCks c).curValid = s.curValid := rfl
@[simp] theorem State.setCks_curKeys (c : Byte) : (s.setCks c).curKeys = s.curKeys := rfl
@[simp] theorem State.setCks_curX (c : Byte) : (s.setCks c).curX = s.curX := rfl
@[simp] theorem State.setCks_curY (c : Byte) : (s.setCks c).curY = s.curY := rfl
@[simp] theorem State.setCks_changed (c : Byte) : (s.setCks c).changed = s.changed := rfl
@[simp] theorem State.setCks_kaCnt (c : Byte) : (s.setCks c).kaCnt = s.kaCnt := rfl
@[simp] theorem State.setCks_frameOut (c : Byte) : (s.setCks c).frameOut = s.frameOut := rfl
@[simp] theorem State.setCks_txStb (c : Byte) : (s.setCks c).txStb = s.txStb := rfl
@[simp] theorem State.setCks_illegalStb (c : Byte) : (s.setCks c).illegalStb = s.illegalStb := rfl
@[simp] theorem State.setCks_cksResult (c : Byte) : (s.setCks c).cksResult = c := rfl
@[simp] theorem State.setCks_decCode (c : Byte) : (s.setCks c).decCode = s.decCode := rfl
@[simp] theorem State.setCks_decKeys (c : Byte) : (s.setCks c).decKeys = s.decKeys := rfl
@[simp] theorem State.setCks_decX (c : Byte) : (s.setCks c).decX = s.decX := rfl
@[simp] theorem State.setCks_decY (c : Byte) : (s.setCks c).decY = s.decY := rfl
@[simp] theorem State.setCks_seen (c : Byte) : (s.setCks c).seen = s.seen := rfl
@[simp] theorem State.setCks_lastSeen (c : Byte) : (s.setCks c).lastSeen = s.lastSeen := rfl
@[simp] theorem State.setCks_expired (c : Byte) : (s.setCks c).expired = s.expired := rfl
@[simp] theorem State.setCks_aliveR (c : Byte) : (s.setCks c).aliveR = s.aliveR := rfl

/-! ### setDecCode -/

@[simp] theorem State.setDecCode_par (c : DecCode) : (s.setDecCode c).par = s.par := rfl
@[simp] theorem State.setDecCode_inp (c : DecCode) : (s.setDecCode c).inp = s.inp := rfl
@[simp] theorem State.setDecCode_sched (c : DecCode) : (s.setDecCode c).sched = s.sched := rfl
@[simp] theorem State.setDecCode_seq (c : DecCode) : (s.setDecCode c).seq = s.seq := rfl
@[simp] theorem State.setDecCode_dbn (c : DecCode) : (s.setDecCode c).dbn = s.dbn := rfl
@[simp] theorem State.setDecCode_sampledKeys (c : DecCode) : (s.setDecCode c).sampledKeys = s.sampledKeys := rfl
@[simp] theorem State.setDecCode_curValid (c : DecCode) : (s.setDecCode c).curValid = s.curValid := rfl
@[simp] theorem State.setDecCode_curKeys (c : DecCode) : (s.setDecCode c).curKeys = s.curKeys := rfl
@[simp] theorem State.setDecCode_curX (c : DecCode) : (s.setDecCode c).curX = s.curX := rfl
@[simp] theorem State.setDecCode_curY (c : DecCode) : (s.setDecCode c).curY = s.curY := rfl
@[simp] theorem State.setDecCode_changed (c : DecCode) : (s.setDecCode c).changed = s.changed := rfl
@[simp] theorem State.setDecCode_kaCnt (c : DecCode) : (s.setDecCode c).kaCnt = s.kaCnt := rfl
@[simp] theorem State.setDecCode_frameOut (c : DecCode) : (s.setDecCode c).frameOut = s.frameOut := rfl
@[simp] theorem State.setDecCode_txStb (c : DecCode) : (s.setDecCode c).txStb = s.txStb := rfl
@[simp] theorem State.setDecCode_illegalStb (c : DecCode) : (s.setDecCode c).illegalStb = s.illegalStb := rfl
@[simp] theorem State.setDecCode_cksResult (c : DecCode) : (s.setDecCode c).cksResult = s.cksResult := rfl
@[simp] theorem State.setDecCode_decCode (c : DecCode) : (s.setDecCode c).decCode = c := rfl
@[simp] theorem State.setDecCode_decKeys (c : DecCode) : (s.setDecCode c).decKeys = s.decKeys := rfl
@[simp] theorem State.setDecCode_decX (c : DecCode) : (s.setDecCode c).decX = s.decX := rfl
@[simp] theorem State.setDecCode_decY (c : DecCode) : (s.setDecCode c).decY = s.decY := rfl
@[simp] theorem State.setDecCode_seen (c : DecCode) : (s.setDecCode c).seen = s.seen := rfl
@[simp] theorem State.setDecCode_lastSeen (c : DecCode) : (s.setDecCode c).lastSeen = s.lastSeen := rfl
@[simp] theorem State.setDecCode_expired (c : DecCode) : (s.setDecCode c).expired = s.expired := rfl
@[simp] theorem State.setDecCode_aliveR (c : DecCode) : (s.setDecCode c).aliveR = s.aliveR := rfl

/-! ### setDecFields -/

@[simp] theorem State.setDecFields_par (k : BitVec 8) (x y : BitVec 16) : (s.setDecFields k x y).par = s.par := rfl
@[simp] theorem State.setDecFields_inp (k : BitVec 8) (x y : BitVec 16) : (s.setDecFields k x y).inp = s.inp := rfl
@[simp] theorem State.setDecFields_sched (k : BitVec 8) (x y : BitVec 16) : (s.setDecFields k x y).sched = s.sched := rfl
@[simp] theorem State.setDecFields_seq (k : BitVec 8) (x y : BitVec 16) : (s.setDecFields k x y).seq = s.seq := rfl
@[simp] theorem State.setDecFields_dbn (k : BitVec 8) (x y : BitVec 16) : (s.setDecFields k x y).dbn = s.dbn := rfl
@[simp] theorem State.setDecFields_sampledKeys (k : BitVec 8) (x y : BitVec 16) : (s.setDecFields k x y).sampledKeys = s.sampledKeys := rfl
@[simp] theorem State.setDecFields_curValid (k : BitVec 8) (x y : BitVec 16) : (s.setDecFields k x y).curValid = s.curValid := rfl
@[simp] theorem State.setDecFields_curKeys (k : BitVec 8) (x y : BitVec 16) : (s.setDecFields k x y).curKeys = s.curKeys := rfl
@[simp] theorem State.setDecFields_curX (k : BitVec 8) (x y : BitVec 16) : (s.setDecFields k x y).curX = s.curX := rfl
@[simp] theorem State.setDecFields_curY (k : BitVec 8) (x y : BitVec 16) : (s.setDecFields k x y).curY = s.curY := rfl
@[simp] theorem State.setDecFields_changed (k : BitVec 8) (x y : BitVec 16) : (s.setDecFields k x y).changed = s.changed := rfl
@[simp] theorem State.setDecFields_kaCnt (k : BitVec 8) (x y : BitVec 16) : (s.setDecFields k x y).kaCnt = s.kaCnt := rfl
@[simp] theorem State.setDecFields_frameOut (k : BitVec 8) (x y : BitVec 16) : (s.setDecFields k x y).frameOut = s.frameOut := rfl
@[simp] theorem State.setDecFields_txStb (k : BitVec 8) (x y : BitVec 16) : (s.setDecFields k x y).txStb = s.txStb := rfl
@[simp] theorem State.setDecFields_illegalStb (k : BitVec 8) (x y : BitVec 16) : (s.setDecFields k x y).illegalStb = s.illegalStb := rfl
@[simp] theorem State.setDecFields_cksResult (k : BitVec 8) (x y : BitVec 16) : (s.setDecFields k x y).cksResult = s.cksResult := rfl
@[simp] theorem State.setDecFields_decCode (k : BitVec 8) (x y : BitVec 16) : (s.setDecFields k x y).decCode = s.decCode := rfl
@[simp] theorem State.setDecFields_decKeys (k : BitVec 8) (x y : BitVec 16) : (s.setDecFields k x y).decKeys = k := rfl
@[simp] theorem State.setDecFields_decX (k : BitVec 8) (x y : BitVec 16) : (s.setDecFields k x y).decX = x := rfl
@[simp] theorem State.setDecFields_decY (k : BitVec 8) (x y : BitVec 16) : (s.setDecFields k x y).decY = y := rfl
@[simp] theorem State.setDecFields_seen (k : BitVec 8) (x y : BitVec 16) : (s.setDecFields k x y).seen = s.seen := rfl
@[simp] theorem State.setDecFields_lastSeen (k : BitVec 8) (x y : BitVec 16) : (s.setDecFields k x y).lastSeen = s.lastSeen := rfl
@[simp] theorem State.setDecFields_expired (k : BitVec 8) (x y : BitVec 16) : (s.setDecFields k x y).expired = s.expired := rfl
@[simp] theorem State.setDecFields_aliveR (k : BitVec 8) (x y : BitVec 16) : (s.setDecFields k x y).aliveR = s.aliveR := rfl

/-! ### refresh -/

@[simp] theorem State.refresh_par : (s.refresh).par = s.par := rfl
@[simp] theorem State.refresh_inp : (s.refresh).inp = s.inp := rfl
@[simp] theorem State.refresh_sched : (s.refresh).sched = s.sched := rfl
@[simp] theorem State.refresh_seq : (s.refresh).seq = s.seq := rfl
@[simp] theorem State.refresh_dbn : (s.refresh).dbn = s.dbn := rfl
@[simp] theorem State.refresh_sampledKeys : (s.refresh).sampledKeys = s.sampledKeys := rfl
@[simp] theorem State.refresh_curValid : (s.refresh).curValid = s.curValid := rfl
@[simp] theorem State.refresh_curKeys : (s.refresh).curKeys = s.curKeys := rfl
@[simp] theorem State.refresh_curX : (s.refresh).curX = s.curX := rfl
@[simp] theorem State.refresh_curY : (s.refresh).curY = s.curY := rfl
@[simp] theorem State.refresh_changed : (s.refresh).changed = s.changed := rfl
@[simp] theorem State.refresh_kaCnt : (s.refresh).kaCnt = s.kaCnt := rfl
@[simp] theorem State.refresh_frameOut : (s.refresh).frameOut = s.frameOut := rfl
@[simp] theorem State.refresh_txStb : (s.refresh).txStb = s.txStb := rfl
@[simp] theorem State.refresh_illegalStb : (s.refresh).illegalStb = s.illegalStb := rfl
@[simp] theorem State.refresh_cksResult : (s.refresh).cksResult = s.cksResult := rfl
@[simp] theorem State.refresh_decCode : (s.refresh).decCode = s.decCode := rfl
@[simp] theorem State.refresh_decKeys : (s.refresh).decKeys = s.decKeys := rfl
@[simp] theorem State.refresh_decX : (s.refresh).decX = s.decX := rfl
@[simp] theorem State.refresh_decY : (s.refresh).decY = s.decY := rfl
@[simp] theorem State.refresh_seen : (s.refresh).seen = true := rfl
@[simp] theorem State.refresh_lastSeen : (s.refresh).lastSeen = s.nowIn := rfl
@[simp] theorem State.refresh_expired : (s.refresh).expired = false := rfl
@[simp] theorem State.refresh_aliveR : (s.refresh).aliveR = s.aliveR := rfl

/-! ### markExpired -/

@[simp] theorem State.markExpired_par : (s.markExpired).par = s.par := rfl
@[simp] theorem State.markExpired_inp : (s.markExpired).inp = s.inp := rfl
@[simp] theorem State.markExpired_sched : (s.markExpired).sched = s.sched := rfl
@[simp] theorem State.markExpired_seq : (s.markExpired).seq = s.seq := rfl
@[simp] theorem State.markExpired_dbn : (s.markExpired).dbn = s.dbn := rfl
@[simp] theorem State.markExpired_sampledKeys : (s.markExpired).sampledKeys = s.sampledKeys := rfl
@[simp] theorem State.markExpired_curValid : (s.markExpired).curValid = s.curValid := rfl
@[simp] theorem State.markExpired_curKeys : (s.markExpired).curKeys = s.curKeys := rfl
@[simp] theorem State.markExpired_curX : (s.markExpired).curX = s.curX := rfl
@[simp] theorem State.markExpired_curY : (s.markExpired).curY = s.curY := rfl
@[simp] theorem State.markExpired_changed : (s.markExpired).changed = s.changed := rfl
@[simp] theorem State.markExpired_kaCnt : (s.markExpired).kaCnt = s.kaCnt := rfl
@[simp] theorem State.markExpired_frameOut : (s.markExpired).frameOut = s.frameOut := rfl
@[simp] theorem State.markExpired_txStb : (s.markExpired).txStb = s.txStb := rfl
@[simp] theorem State.markExpired_illegalStb : (s.markExpired).illegalStb = s.illegalStb := rfl
@[simp] theorem State.markExpired_cksResult : (s.markExpired).cksResult = s.cksResult := rfl
@[simp] theorem State.markExpired_decCode : (s.markExpired).decCode = s.decCode := rfl
@[simp] theorem State.markExpired_decKeys : (s.markExpired).decKeys = s.decKeys := rfl
@[simp] theorem State.markExpired_decX : (s.markExpired).decX = s.decX := rfl
@[simp] theorem State.markExpired_decY : (s.markExpired).decY = s.decY := rfl
@[simp] theorem State.markExpired_seen : (s.markExpired).seen = s.seen := rfl
@[simp] theorem State.markExpired_lastSeen : (s.markExpired).lastSeen = s.lastSeen := rfl
@[simp] theorem State.markExpired_expired : (s.markExpired).expired = true := rfl
@[simp] theorem State.markExpired_aliveR : (s.markExpired).aliveR = s.aliveR := rfl

/-! ### setAliveR -/

@[simp] theorem State.setAliveR_par (b : Bool) : (s.setAliveR b).par = s.par := rfl
@[simp] theorem State.setAliveR_inp (b : Bool) : (s.setAliveR b).inp = s.inp := rfl
@[simp] theorem State.setAliveR_sched (b : Bool) : (s.setAliveR b).sched = s.sched := rfl
@[simp] theorem State.setAliveR_seq (b : Bool) : (s.setAliveR b).seq = s.seq := rfl
@[simp] theorem State.setAliveR_dbn (b : Bool) : (s.setAliveR b).dbn = s.dbn := rfl
@[simp] theorem State.setAliveR_sampledKeys (b : Bool) : (s.setAliveR b).sampledKeys = s.sampledKeys := rfl
@[simp] theorem State.setAliveR_curValid (b : Bool) : (s.setAliveR b).curValid = s.curValid := rfl
@[simp] theorem State.setAliveR_curKeys (b : Bool) : (s.setAliveR b).curKeys = s.curKeys := rfl
@[simp] theorem State.setAliveR_curX (b : Bool) : (s.setAliveR b).curX = s.curX := rfl
@[simp] theorem State.setAliveR_curY (b : Bool) : (s.setAliveR b).curY = s.curY := rfl
@[simp] theorem State.setAliveR_changed (b : Bool) : (s.setAliveR b).changed = s.changed := rfl
@[simp] theorem State.setAliveR_kaCnt (b : Bool) : (s.setAliveR b).kaCnt = s.kaCnt := rfl
@[simp] theorem State.setAliveR_frameOut (b : Bool) : (s.setAliveR b).frameOut = s.frameOut := rfl
@[simp] theorem State.setAliveR_txStb (b : Bool) : (s.setAliveR b).txStb = s.txStb := rfl
@[simp] theorem State.setAliveR_illegalStb (b : Bool) : (s.setAliveR b).illegalStb = s.illegalStb := rfl
@[simp] theorem State.setAliveR_cksResult (b : Bool) : (s.setAliveR b).cksResult = s.cksResult := rfl
@[simp] theorem State.setAliveR_decCode (b : Bool) : (s.setAliveR b).decCode = s.decCode := rfl
@[simp] theorem State.setAliveR_decKeys (b : Bool) : (s.setAliveR b).decKeys = s.decKeys := rfl
@[simp] theorem State.setAliveR_decX (b : Bool) : (s.setAliveR b).decX = s.decX := rfl
@[simp] theorem State.setAliveR_decY (b : Bool) : (s.setAliveR b).decY = s.decY := rfl
@[simp] theorem State.setAliveR_seen (b : Bool) : (s.setAliveR b).seen = s.seen := rfl
@[simp] theorem State.setAliveR_lastSeen (b : Bool) : (s.setAliveR b).lastSeen = s.lastSeen := rfl
@[simp] theorem State.setAliveR_expired (b : Bool) : (s.setAliveR b).expired = s.expired := rfl
@[simp] theorem State.setAliveR_aliveR (b : Bool) : (s.setAliveR b).aliveR = b := rfl

/-! ### advancePorts -/

@[simp] theorem State.advancePorts_par : (s.advancePorts).par = s.par := rfl
@[simp] theorem State.advancePorts_inp : (s.advancePorts).inp = s.sched.head?.getD s.inp := rfl
@[simp] theorem State.advancePorts_sched : (s.advancePorts).sched = s.sched.tail := rfl
@[simp] theorem State.advancePorts_seq : (s.advancePorts).seq = s.seq := rfl
@[simp] theorem State.advancePorts_dbn : (s.advancePorts).dbn = s.dbn := rfl
@[simp] theorem State.advancePorts_sampledKeys : (s.advancePorts).sampledKeys = s.sampledKeys := rfl
@[simp] theorem State.advancePorts_curValid : (s.advancePorts).curValid = s.curValid := rfl
@[simp] theorem State.advancePorts_curKeys : (s.advancePorts).curKeys = s.curKeys := rfl
@[simp] theorem State.advancePorts_curX : (s.advancePorts).curX = s.curX := rfl
@[simp] theorem State.advancePorts_curY : (s.advancePorts).curY = s.curY := rfl
@[simp] theorem State.advancePorts_changed : (s.advancePorts).changed = s.changed := rfl
@[simp] theorem State.advancePorts_kaCnt : (s.advancePorts).kaCnt = s.kaCnt := rfl
@[simp] theorem State.advancePorts_frameOut : (s.advancePorts).frameOut = s.frameOut := rfl
@[simp] theorem State.advancePorts_txStb : (s.advancePorts).txStb = s.txStb := rfl
@[simp] theorem State.advancePorts_illegalStb : (s.advancePorts).illegalStb = s.illegalStb := rfl
@[simp] theorem State.advancePorts_cksResult : (s.advancePorts).cksResult = s.cksResult := rfl
@[simp] theorem State.advancePorts_decCode : (s.advancePorts).decCode = s.decCode := rfl
@[simp] theorem State.advancePorts_decKeys : (s.advancePorts).decKeys = s.decKeys := rfl
@[simp] theorem State.advancePorts_decX : (s.advancePorts).decX = s.decX := rfl
@[simp] theorem State.advancePorts_decY : (s.advancePorts).decY = s.decY := rfl
@[simp] theorem State.advancePorts_seen : (s.advancePorts).seen = s.seen := rfl
@[simp] theorem State.advancePorts_lastSeen : (s.advancePorts).lastSeen = s.lastSeen := rfl
@[simp] theorem State.advancePorts_expired : (s.advancePorts).expired = s.expired := rfl
@[simp] theorem State.advancePorts_aliveR : (s.advancePorts).aliveR = s.aliveR := rfl

/-! ### resetRegisters -/

@[simp] theorem State.resetRegisters_par : s.resetRegisters.par = s.par := rfl
@[simp] theorem State.resetRegisters_inp : s.resetRegisters.inp = s.inp := rfl
@[simp] theorem State.resetRegisters_sched : s.resetRegisters.sched = s.sched := rfl
@[simp] theorem State.resetRegisters_seq : s.resetRegisters.seq = State.reset.seq := rfl
@[simp] theorem State.resetRegisters_dbn : s.resetRegisters.dbn = State.reset.dbn := rfl
@[simp] theorem State.resetRegisters_sampledKeys : s.resetRegisters.sampledKeys = State.reset.sampledKeys := rfl
@[simp] theorem State.resetRegisters_curValid : s.resetRegisters.curValid = State.reset.curValid := rfl
@[simp] theorem State.resetRegisters_curKeys : s.resetRegisters.curKeys = State.reset.curKeys := rfl
@[simp] theorem State.resetRegisters_curX : s.resetRegisters.curX = State.reset.curX := rfl
@[simp] theorem State.resetRegisters_curY : s.resetRegisters.curY = State.reset.curY := rfl
@[simp] theorem State.resetRegisters_changed : s.resetRegisters.changed = State.reset.changed := rfl
@[simp] theorem State.resetRegisters_kaCnt : s.resetRegisters.kaCnt = State.reset.kaCnt := rfl
@[simp] theorem State.resetRegisters_frameOut : s.resetRegisters.frameOut = State.reset.frameOut := rfl
@[simp] theorem State.resetRegisters_txStb : s.resetRegisters.txStb = State.reset.txStb := rfl
@[simp] theorem State.resetRegisters_illegalStb : s.resetRegisters.illegalStb = State.reset.illegalStb := rfl
@[simp] theorem State.resetRegisters_cksResult : s.resetRegisters.cksResult = State.reset.cksResult := rfl
@[simp] theorem State.resetRegisters_decCode : s.resetRegisters.decCode = State.reset.decCode := rfl
@[simp] theorem State.resetRegisters_decKeys : s.resetRegisters.decKeys = State.reset.decKeys := rfl
@[simp] theorem State.resetRegisters_decX : s.resetRegisters.decX = State.reset.decX := rfl
@[simp] theorem State.resetRegisters_decY : s.resetRegisters.decY = State.reset.decY := rfl
@[simp] theorem State.resetRegisters_seen : s.resetRegisters.seen = State.reset.seen := rfl
@[simp] theorem State.resetRegisters_lastSeen : s.resetRegisters.lastSeen = State.reset.lastSeen := rfl
@[simp] theorem State.resetRegisters_expired : s.resetRegisters.expired = State.reset.expired := rfl
@[simp] theorem State.resetRegisters_aliveR : s.resetRegisters.aliveR = State.reset.aliveR := rfl

/-! ### State.reset -/

@[simp] theorem State.reset_par : State.reset.par = Config.params := rfl
@[simp] theorem State.reset_inp : State.reset.inp = Inputs.quiet := rfl
@[simp] theorem State.reset_sched : State.reset.sched = [] := rfl
@[simp] theorem State.reset_seq : State.reset.seq = .idle := rfl
@[simp] theorem State.reset_dbn : State.reset.dbn = PerButton.all Button.released := rfl
@[simp] theorem State.reset_sampledKeys : State.reset.sampledKeys = 0#5 := rfl
@[simp] theorem State.reset_curValid : State.reset.curValid = false := rfl
@[simp] theorem State.reset_curKeys : State.reset.curKeys = 0#5 := rfl
@[simp] theorem State.reset_curX : State.reset.curX = 0#10 := rfl
@[simp] theorem State.reset_curY : State.reset.curY = 0#10 := rfl
@[simp] theorem State.reset_changed : State.reset.changed = false := rfl
@[simp] theorem State.reset_kaCnt : State.reset.kaCnt = 0 := rfl
@[simp] theorem State.reset_frameOut : State.reset.frameOut = 0#56 := rfl
@[simp] theorem State.reset_txStb : State.reset.txStb = false := rfl
@[simp] theorem State.reset_illegalStb : State.reset.illegalStb = false := rfl
@[simp] theorem State.reset_cksResult : State.reset.cksResult = 0#8 := rfl
@[simp] theorem State.reset_decCode : State.reset.decCode = .none := rfl
@[simp] theorem State.reset_decKeys : State.reset.decKeys = 0#8 := rfl
@[simp] theorem State.reset_decX : State.reset.decX = 0#16 := rfl
@[simp] theorem State.reset_decY : State.reset.decY = 0#16 := rfl
@[simp] theorem State.reset_seen : State.reset.seen = false := rfl
@[simp] theorem State.reset_lastSeen : State.reset.lastSeen = 0 := rfl
@[simp] theorem State.reset_expired : State.reset.expired = false := rfl
@[simp] theorem State.reset_aliveR : State.reset.aliveR = false := rfl

end Sys2Proof.Machine
end

