-- ==== Sys2Proof/Laws/Conditions.lean ====
section
/-!
SUPPORT. The sampled ports and the conditions of Machine/Flags.lean do not look at the registers that the single writes
before them change: one rfl lemma for each pair that the shared operations and step put together.
-/

namespace Sys2Proof.Machine

variable (s : State)

@[simp] theorem State.nowIn_returnStrobes : (s.returnStrobes).nowIn = s.nowIn := rfl
@[simp] theorem State.timeoutIn_returnStrobes : (s.returnStrobes).timeoutIn = s.timeoutIn := rfl
@[simp] theorem State.kaIntervalIn_returnStrobes : (s.returnStrobes).kaIntervalIn = s.kaIntervalIn := rfl
@[simp] theorem State.rxLenIn_returnStrobes : (s.returnStrobes).rxLenIn = s.rxLenIn := rfl
@[simp] theorem State.offered_returnStrobes : (s.returnStrobes).offered = s.offered := rfl
@[simp] theorem State.sliceLen_returnStrobes : (s.returnStrobes).sliceLen = s.sliceLen := rfl
@[simp] theorem State.received_returnStrobes : (s.returnStrobes).received = s.received := rfl
@[simp] theorem State.kaPeriod_returnStrobes : (s.returnStrobes).kaPeriod = s.kaPeriod := rfl
@[simp] theorem State.kaDue_returnStrobes : (s.returnStrobes).kaDue = s.kaDue := rfl
@[simp] theorem State.sampleDone_returnStrobes : (s.returnStrobes).sampleDone = s.sampleDone := rfl
@[simp] theorem State.secondReadKeys_returnStrobes : (s.returnStrobes).secondReadKeys = s.secondReadKeys := rfl
@[simp] theorem State.firstReads_returnStrobes : (s.returnStrobes).firstReads = s.firstReads := rfl
@[simp] theorem State.tickButtons_returnStrobes : (s.returnStrobes).tickButtons = s.tickButtons := rfl
@[simp] theorem State.comparator_returnStrobes : (s.returnStrobes).comparator = s.comparator := rfl
@[simp] theorem State.timedOut_returnStrobes : (s.returnStrobes).timedOut = s.timedOut := rfl
@[simp] theorem State.rawLevel_returnStrobes (i : Fin 5) : (s.returnStrobes).rawLevel i = s.rawLevel i := rfl
@[simp] theorem State.lvl_returnStrobes (i : Fin 5) : (s.returnStrobes).lvl i = s.lvl i := rfl
@[simp] theorem State.delta_returnStrobes (t : Nat) : (s.returnStrobes).delta t = s.delta t := rfl
@[simp] theorem State.hcTest_returnStrobes (k : BitVec 5) (x : BitVec 10) (y : BitVec 10) :
    (s.returnStrobes).hcTest k x y = s.hcTest k x y := rfl
@[simp] theorem State.hcTest_setDbn (d : PerButton Button) (k : BitVec 5) (x : BitVec 10) (y : BitVec 10) :
    (s.setDbn d).hcTest k x y = s.hcTest k x y := rfl
@[simp] theorem State.hcTest_setSampled (m : BitVec 5) (k : BitVec 5) (x : BitVec 10) (y : BitVec 10) :
    (s.setSampled m).hcTest k x y = s.hcTest k x y := rfl
@[simp] theorem State.hcTest_setSeq (q : SeqPhase) (k : BitVec 5) (x : BitVec 10) (y : BitVec 10) :
    (s.setSeq q).hcTest k x y = s.hcTest k x y := rfl
@[simp] theorem State.kaDue_setDbn (d : PerButton Button) : (s.setDbn d).kaDue = s.kaDue := rfl
@[simp] theorem State.kaDue_setSampled (m : BitVec 5) : (s.setSampled m).kaDue = s.kaDue := rfl
@[simp] theorem State.kaDue_setSeq (q : SeqPhase) : (s.setSeq q).kaDue = s.kaDue := rfl
@[simp] theorem State.kaDue_storeCurrent (k : BitVec 5) (x : BitVec 10) (y : BitVec 10) :
    (s.storeCurrent k x y).kaDue = s.kaDue := rfl
@[simp] theorem State.kaDue_setChanged (b : Bool) : (s.setChanged b).kaDue = s.kaDue := rfl
@[simp] theorem State.timedOut_sendFrame (f : Frame) : (s.sendFrame f).timedOut = s.timedOut := rfl
@[simp] theorem State.timedOut_raiseIllegal : (s.raiseIllegal).timedOut = s.timedOut := rfl
@[simp] theorem State.timedOut_setSeq (q : SeqPhase) : (s.setSeq q).timedOut = s.timedOut := rfl
@[simp] theorem State.timedOut_setDbn (d : PerButton Button) : (s.setDbn d).timedOut = s.timedOut := rfl
@[simp] theorem State.timedOut_setSampled (m : BitVec 5) : (s.setSampled m).timedOut = s.timedOut := rfl
@[simp] theorem State.timedOut_storeCurrent (k : BitVec 5) (x : BitVec 10) (y : BitVec 10) :
    (s.storeCurrent k x y).timedOut = s.timedOut := rfl
@[simp] theorem State.timedOut_setChanged (b : Bool) : (s.setChanged b).timedOut = s.timedOut := rfl
@[simp] theorem State.timedOut_setKaCnt (n : Nat) : (s.setKaCnt n).timedOut = s.timedOut := rfl
@[simp] theorem State.timedOut_setCks (c : Byte) : (s.setCks c).timedOut = s.timedOut := rfl
@[simp] theorem State.timedOut_setDecCode (c : DecCode) : (s.setDecCode c).timedOut = s.timedOut := rfl
@[simp] theorem State.timedOut_setDecFields (k : BitVec 8) (x : BitVec 16) (y : BitVec 16) :
    (s.setDecFields k x y).timedOut = s.timedOut := rfl
@[simp] theorem State.timedOut_setAliveR (b : Bool) : (s.setAliveR b).timedOut = s.timedOut := rfl

end Sys2Proof.Machine
end

