-- ==== Sys2Proof/Laws/Frame.lean ====
section
/-!
SUPPORT. The bytes of a packed frame, and what sealing a frame does for the decoder's checksum test
(spec/00_scope.md R16, R17; spec/41_frame_codec.md R170, R171).
-/

namespace Sys2Proof

/-! ### xorfold -/

@[simp] theorem xorfold_nil : xorfold [] = 0#8 := rfl

@[simp] theorem xorfold_cons (b : Byte) (bs : List Byte) : xorfold (b :: bs) = b ^^^ xorfold bs := rfl

theorem xorfold_append (as bs : List Byte) : xorfold (as ++ bs) = xorfold as ^^^ xorfold bs := by
  induction as with
  | nil => simp
  | cons a as ih => simp [ih, BitVec.xor_assoc]

/-- `xorfold` of a list does not depend on the order of the list (R171). -/
theorem xorfold_perm {as bs : List Byte} (h : as.Perm bs) : xorfold as = xorfold bs := by
  induction h with
  | nil => rfl
  | cons a _ ih => simp [ih]
  | swap a b l => simp only [xorfold_cons, ← BitVec.xor_assoc, BitVec.xor_comm a b]
  | trans _ _ ih1 ih2 => exact ih1.trans ih2

/-- Folding the bytewise XOR of two lists is the XOR of the folds. -/
theorem xorfold_zipWith_xor {as bs : List Byte} (h : as.length = bs.length) :
    xorfold (List.zipWith (· ^^^ ·) as bs) = xorfold as ^^^ xorfold bs := by
  induction as generalizing bs with
  | nil => cases bs with
    | nil => simp
    | cons b bs => simp at h
  | cons a as ih => cases bs with
    | nil => simp at h
    | cons b bs =>
      simp only [List.zipWith_cons_cons, xorfold_cons, ih (by simpa using h)]
      ac_rfl

theorem xor_eq_zero_iff_eq (a b : Byte) : a ^^^ b = 0#8 ↔ a = b := by
  refine ⟨fun h => ?_, fun h => by simp [h]⟩
  have h2 := congrArg (· ^^^ b) h
  simpa [BitVec.xor_assoc] using h2

/-! ### Bytes of a packed frame -/

section
variable (b0 b1 b2 b3 b4 b5 b6 : Byte)

theorem getLsbD_packFrame (i : Nat) :
    (packFrame b0 b1 b2 b3 b4 b5 b6).getLsbD i =
      if i < 8 then b6.getLsbD i else if i < 16 then b5.getLsbD (i - 8)
      else if i < 24 then b4.getLsbD (i - 16) else if i < 32 then b3.getLsbD (i - 24)
      else if i < 40 then b2.getLsbD (i - 32) else if i < 48 then b1.getLsbD (i - 40)
      else b0.getLsbD (i - 48) := by
  simp only [packFrame, BitVec.getLsbD_append, Nat.sub_sub]
  split_ifs <;> first | rfl | omega

@[simp] theorem byteOf_packFrame_0 : byteOf (packFrame b0 b1 b2 b3 b4 b5 b6) 0 = b0 := by
  apply BitVec.eq_of_getLsbD_eq
  intro i hi
  simp only [byteOf, BitVec.getLsbD_extractLsb', getLsbD_packFrame, hi]
  split_ifs <;> first | omega | simp

@[simp] theorem byteOf_packFrame_1 : byteOf (packFrame b0 b1 b2 b3 b4 b5 b6) 1 = b1 := by
  apply BitVec.eq_of_getLsbD_eq
  intro i hi
  simp only [byteOf, BitVec.getLsbD_extractLsb', getLsbD_packFrame, hi]
  split_ifs <;> first | omega | simp

@[simp] theorem byteOf_packFrame_2 : byteOf (packFrame b0 b1 b2 b3 b4 b5 b6) 2 = b2 := by
  apply BitVec.eq_of_getLsbD_eq
  intro i hi
  simp only [byteOf, BitVec.getLsbD_extractLsb', getLsbD_packFrame, hi]
  split_ifs <;> first | omega | simp

@[simp] theorem byteOf_packFrame_3 : byteOf (packFrame b0 b1 b2 b3 b4 b5 b6) 3 = b3 := by
  apply BitVec.eq_of_getLsbD_eq
  intro i hi
  simp only [byteOf, BitVec.getLsbD_extractLsb', getLsbD_packFrame, hi]
  split_ifs <;> first | omega | simp

@[simp] theorem byteOf_packFrame_4 : byteOf (packFrame b0 b1 b2 b3 b4 b5 b6) 4 = b4 := by
  apply BitVec.eq_of_getLsbD_eq
  intro i hi
  simp only [byteOf, BitVec.getLsbD_extractLsb', getLsbD_packFrame, hi]
  split_ifs <;> first | omega | simp

@[simp] theorem byteOf_packFrame_5 : byteOf (packFrame b0 b1 b2 b3 b4 b5 b6) 5 = b5 := by
  apply BitVec.eq_of_getLsbD_eq
  intro i hi
  simp only [byteOf, BitVec.getLsbD_extractLsb', getLsbD_packFrame, hi]
  split_ifs <;> first | omega | simp

@[simp] theorem byteOf_packFrame_6 : byteOf (packFrame b0 b1 b2 b3 b4 b5 b6) 6 = b6 := by
  apply BitVec.eq_of_getLsbD_eq
  intro i hi
  simp only [byteOf, BitVec.getLsbD_extractLsb', getLsbD_packFrame, hi]
  split_ifs <;> first | omega | simp

end

/-- A frame is its seven bytes. -/
theorem packFrame_byteOf (f : Frame) :
    packFrame (byteOf f 0) (byteOf f 1) (byteOf f 2) (byteOf f 3) (byteOf f 4) (byteOf f 5) (byteOf f 6) = f := by
  apply BitVec.eq_of_getLsbD_eq
  intro i hi
  have key : ∀ a b, a < 8 → b = i → (decide (a < 8) && f.getLsbD b) = f.getLsbD i := by
    rintro a b h rfl
    simp [h]
  simp only [getLsbD_packFrame, byteOf, BitVec.getLsbD_extractLsb']
  split_ifs <;> apply key <;> omega

/-- Two frames with the same seven bytes are equal. -/
theorem frame_ext {f g : Frame} (h : ∀ k, k < 7 → byteOf f k = byteOf g k) : f = g := by
  rw [← packFrame_byteOf f, ← packFrame_byteOf g, h 0 (by omega), h 1 (by omega), h 2 (by omega), h 3 (by omega),
    h 4 (by omega), h 5 (by omega), h 6 (by omega)]

/-! ### The checksum -/

theorem firstBytes_six (f : Frame) :
    firstBytes f 6 = [byteOf f 0, byteOf f 1, byteOf f 2, byteOf f 3, byteOf f 4, byteOf f 5] := rfl

theorem firstBytes_seven (f : Frame) :
    firstBytes f 7 = [byteOf f 0, byteOf f 1, byteOf f 2, byteOf f 3, byteOf f 4, byteOf f 5, byteOf f 6] := rfl

/-- Every sealed frame passes the decoder's checksum test (R107). -/
@[simp] theorem cks6_sealFrame (b0 b1 b2 b3 b4 b5 : Byte) :
    cks6 (sealFrame b0 b1 b2 b3 b4 b5) = byteOf (sealFrame b0 b1 b2 b3 b4 b5) 6 := by
  simp [cks6, firstBytes_six, sealFrame]

section
variable (b0 b1 b2 b3 b4 b5 : Byte)

@[simp] theorem byteOf_sealFrame_0 : byteOf (sealFrame b0 b1 b2 b3 b4 b5) 0 = b0 := by
  simp [sealFrame]

@[simp] theorem byteOf_sealFrame_1 : byteOf (sealFrame b0 b1 b2 b3 b4 b5) 1 = b1 := by
  simp [sealFrame]

@[simp] theorem byteOf_sealFrame_2 : byteOf (sealFrame b0 b1 b2 b3 b4 b5) 2 = b2 := by
  simp [sealFrame]

@[simp] theorem byteOf_sealFrame_3 : byteOf (sealFrame b0 b1 b2 b3 b4 b5) 3 = b3 := by
  simp [sealFrame]

@[simp] theorem byteOf_sealFrame_4 : byteOf (sealFrame b0 b1 b2 b3 b4 b5) 4 = b4 := by
  simp [sealFrame]

@[simp] theorem byteOf_sealFrame_5 : byteOf (sealFrame b0 b1 b2 b3 b4 b5) 5 = b5 := by
  simp [sealFrame]

end

/-! ### Payloads -/

/-- Byte `k + 1` of a frame is byte `k` of its payload. -/
theorem payloadByte_payloadOf (f : Frame) {k : Nat} (hk : k < 5) :
    payloadByte (payloadOf f) k = byteOf f (k + 1) := by
  apply BitVec.eq_of_getLsbD_eq
  intro i hi
  simp only [payloadByte, payloadOf, byteOf, BitVec.getLsbD_extractLsb', hi, decide_true, Bool.true_and]
  rw [decide_eq_true (by omega), Bool.true_and]
  congr 1
  omega

theorem getLsbD_payloadByte (p : BitVec 40) (k i : Nat) :
    (payloadByte p k).getLsbD i = (decide (i < 8) && p.getLsbD (32 - 8 * k + i)) := by
  simp [payloadByte, BitVec.getLsbD_extractLsb']

/-- The payload of a frame sealed from a payload is that payload. -/
@[simp] theorem payloadOf_sealPayload (b0 : Byte) (p : BitVec 40) : payloadOf (sealPayload b0 p) = p := by
  apply BitVec.eq_of_getLsbD_eq
  intro i hi
  have key : ∀ a b, a < 8 → b = i → (decide (a < 8) && p.getLsbD b) = p.getLsbD i := by
    rintro a b h rfl
    simp [h]
  simp only [payloadOf, sealPayload, sealFrame, BitVec.getLsbD_extractLsb', getLsbD_packFrame, hi, decide_true,
    Bool.true_and, getLsbD_payloadByte]
  split_ifs <;> first | omega | (apply key <;> omega)

/-! ### Axis halves -/

/-- The join of the halves of a 16-bit field is the field (R84). -/
@[simp] theorem axisJoin_halves (v : BitVec 16) : axisJoin (upperByte v) (lowerByte v) = v := by
  apply BitVec.eq_of_getLsbD_eq
  intro i hi
  simp only [axisJoin, upperByte, lowerByte, BitVec.getLsbD_append, BitVec.getLsbD_extractLsb']
  split_ifs with h
  · simp [h]
  · rw [decide_eq_true (by omega), Bool.true_and]
    congr 1
    omega

end Sys2Proof
end

