-- ==== Sys2Proof/Laws/Ops.lean ====
section
/-!
SUPPORT. For each shared operation, once, everything it can do; and the cases of one edge.
-/

namespace Sys2Proof

/-! ### Numbers of a parameter's width -/

theorem trunc_lt (n v : Nat) : trunc n v < 2 ^ n := Nat.mod_lt _ (Nat.two_pow_pos n)

theorem trunc_of_lt {n v : Nat} (h : v < 2 ^ n) : trunc n v = v := Nat.mod_eq_of_lt h

theorem subMod_lt (n a b : Nat) : subMod n a b < 2 ^ n := trunc_lt _ _

@[simp] theorem subMod_self (n a : Nat) : subMod n a a = 0 := by simp [subMod, trunc]

/-- Without a borrow the modular difference is the difference. -/
theorem subMod_of_le {n a b : Nat} (hb : b ≤ a) (ha : a < 2 ^ n) : subMod n a b = a - b := by
  have h : a + 2 ^ n - b = (a - b) + 2 ^ n := by omega
  rw [subMod, trunc, h, Nat.add_mod_right, Nat.mod_eq_of_lt (by omega)]

/-- DBN_W is wide enough for DEBOUNCE_CYCLES (R7). -/
theorem Params.debounceCycles_lt (p : Params) : p.debounceCycles < 2 ^ p.dbnW := by
  unfold Params.dbnW
  split
  · omega
  · exact Nat.lt_log2_self

/-- A legal build, part by part (R5, R6, R8, R9, R10). -/
theorem Params.legal_iff (p : Params) :
    p.legal = true ↔ p.kaPreamble ≠ 0xAA#8 ∧ 1 ≤ p.debounceCycles ∧
      (2 ≤ p.tW ∧ p.tW ≤ 64) ∧ (1 ≤ p.kaW ∧ p.kaW ≤ 32) ∧ (3 ≤ p.lenW ∧ p.lenW ≤ 16) := by
  simp only [Params.legal, Params.preambleOk, Params.debounceOk, Params.widthsOk, Config.stPreamble,
    Bool.and_eq_true, bne_iff_ne, ne_eq, decide_eq_true_eq]
  tauto

namespace Machine

/-! ### Operands -/

theorem State.nowIn_lt (s : State) : s.nowIn < 2 ^ s.par.tW := trunc_lt _ _

theorem State.timeoutIn_lt (s : State) : s.timeoutIn < 2 ^ s.par.tW := trunc_lt _ _

theorem State.kaIntervalIn_lt (s : State) : s.kaIntervalIn < 2 ^ s.par.kaW := trunc_lt _ _

@[simp] theorem PerButton.get_ofRule {α : Type} (f : Fin 5 → α) (i : Fin 5) : (PerButton.ofRule f).get i = f i := by
  fin_cases i <;> rfl

@[simp] theorem PerButton.get_all {α : Type} (a : α) (i : Fin 5) : (PerButton.all a).get i = a := by
  fin_cases i <;> rfl

/-- Bit i of a keys mask is button i's bit (R142). -/
@[simp] theorem PerButton.keys_getLsbD (p : PerButton Bool) (i : Fin 5) : p.keys.getLsbD i.val = p.get i := by
  obtain ⟨a, b, c, d, e⟩ := p
  fin_cases i <;> simp only [PerButton.keys, PerButton.get] <;>
    cases a <;> cases b <;> cases c <;> cases d <;> cases e <;> rfl

theorem PerButton.any_eq_false_iff {α : Type} (p : PerButton α) (f : α → Bool) :
    p.any f = false ↔ ∀ i, f (p.get i) = false := by
  constructor
  · intro h i
    simp only [PerButton.any, Bool.or_eq_false_iff] at h
    obtain ⟨⟨⟨⟨h0, h1⟩, h2⟩, h3⟩, h4⟩ := h
    fin_cases i <;> assumption
  · intro h
    simp only [PerButton.any, Bool.or_eq_false_iff]
    exact ⟨⟨⟨⟨h 0, h 1⟩, h 2⟩, h 3⟩, h 4⟩

/-! ### Change detector and keepalive counter -/

/-- HC (R146): the stored sample moves exactly when a change is reported; CHANGED is the test. -/
theorem State.hc_eq (s : State) (k : BitVec 5) (x y : BitVec 10) :
    s.hc k x y =
      ({ s with
          curKeys := if s.hcTest k x y then k else s.curKeys
          curX := if s.hcTest k x y then x else s.curX
          curY := if s.hcTest k x y then y else s.curY
          curValid := s.hcTest k x y || s.curValid
          changed := s.hcTest k x y }, s.hcTest k x y) := by
  unfold State.hc
  cases h : s.hcTest k x y <;> rfl

/-- KA_STEP (R202): the counter restarts exactly when a Keepalive is due. -/
theorem State.kaStep_eq (s : State) :
    s.kaStep = ({ s with kaCnt := if s.kaDue then 0 else s.kaCnt + 1 }, s.kaDue) := by
  unfold State.kaStep
  cases h : s.kaDue <;> rfl

/-- TT_COMPLETE (R201): all it writes, in terms of the state before the edge. -/
theorem State.ttComplete_eq (s : State) (k : BitVec 5) :
    s.ttComplete k =
      { s with
          curKeys := if s.hcTest k s.inp.axisX s.inp.axisY then k else s.curKeys
          curX := if s.hcTest k s.inp.axisX s.inp.axisY then s.inp.axisX else s.curX
          curY := if s.hcTest k s.inp.axisX s.inp.axisY then s.inp.axisY else s.curY
          curValid := s.hcTest k s.inp.axisX s.inp.axisY || s.curValid
          changed := s.hcTest k s.inp.axisX s.inp.axisY
          kaCnt := if s.kaDue then 0 else s.kaCnt + 1
          frameOut :=
            if s.hcTest k s.inp.axisX s.inp.axisY then encS k s.inp.axisX s.inp.axisY
            else if s.kaDue then encK s.par.kaPreamble else s.frameOut
          txStb := s.hcTest k s.inp.axisX s.inp.axisY || s.kaDue || s.txStb
          seq := if s.hcTest k s.inp.axisX s.inp.axisY && s.kaDue then .ttKa else .idle } := by
  unfold State.ttComplete State.hc State.kaStep
  cases h : s.hcTest k s.inp.axisX s.inp.axisY <;> cases h' : s.kaDue <;>
    simp only [if_true, if_false, Bool.false_eq_true, State.kaDue_setChanged, State.kaDue_storeCurrent, h'] <;> rfl

section
variable (s : State) (k : BitVec 5)

@[simp] theorem State.ttComplete_par : (s.ttComplete k).par = s.par := by rw [State.ttComplete_eq]

@[simp] theorem State.ttComplete_inp : (s.ttComplete k).inp = s.inp := by rw [State.ttComplete_eq]

@[simp] theorem State.ttComplete_sched : (s.ttComplete k).sched = s.sched := by rw [State.ttComplete_eq]

@[simp] theorem State.ttComplete_seq :
    (s.ttComplete k).seq =
      if s.hcTest k s.inp.axisX s.inp.axisY && s.kaDue then .ttKa else .idle := by
  rw [State.ttComplete_eq]

@[simp] theorem State.ttComplete_dbn : (s.ttComplete k).dbn = s.dbn := by rw [State.ttComplete_eq]

@[simp] theorem State.ttComplete_sampledKeys : (s.ttComplete k).sampledKeys = s.sampledKeys := by rw [State.ttComplete_eq]

@[simp] theorem State.ttComplete_curValid :
    (s.ttComplete k).curValid =
      (s.hcTest k s.inp.axisX s.inp.axisY || s.curValid) := by
  rw [State.ttComplete_eq]

@[simp] theorem State.ttComplete_curKeys :
    (s.ttComplete k).curKeys =
      if s.hcTest k s.inp.axisX s.inp.axisY then k else s.curKeys := by
  rw [State.ttComplete_eq]

@[simp] theorem State.ttComplete_curX :
    (s.ttComplete k).curX =
      if s.hcTest k s.inp.axisX s.inp.axisY then s.inp.axisX else s.curX := by
  rw [State.ttComplete_eq]

@[simp] theorem State.ttComplete_curY :
    (s.ttComplete k).curY =
      if s.hcTest k s.inp.axisX s.inp.axisY then s.inp.axisY else s.curY := by
  rw [State.ttComplete_eq]

@[simp] theorem State.ttComplete_changed :
    (s.ttComplete k).changed =
      s.hcTest k s.inp.axisX s.inp.axisY := by
  rw [State.ttComplete_eq]

@[simp] theorem State.ttComplete_kaCnt :
    (s.ttComplete k).kaCnt =
      if s.kaDue then 0 else s.kaCnt + 1 := by
  rw [State.ttComplete_eq]

@[simp] theorem State.ttComplete_frameOut :
    (s.ttComplete k).frameOut =
      if s.hcTest k s.inp.axisX s.inp.axisY then encS k s.inp.axisX s.inp.axisY
      else if s.kaDue then encK s.par.kaPreamble else s.frameOut := by
  rw [State.ttComplete_eq]

@[simp] theorem State.ttComplete_txStb :
    (s.ttComplete k).txStb =
      (s.hcTest k s.inp.axisX s.inp.axisY || s.kaDue || s.txStb) := by
  rw [State.ttComplete_eq]

@[simp] theorem State.ttComplete_illegalStb : (s.ttComplete k).illegalStb = s.illegalStb := by rw [State.ttComplete_eq]

@[simp] theorem State.ttComplete_cksResult : (s.ttComplete k).cksResult = s.cksResult := by rw [State.ttComplete_eq]

@[simp] theorem State.ttComplete_decCode : (s.ttComplete k).decCode = s.decCode := by rw [State.ttComplete_eq]

@[simp] theorem State.ttComplete_decKeys : (s.ttComplete k).decKeys = s.decKeys := by rw [State.ttComplete_eq]

@[simp] theorem State.ttComplete_decX : (s.ttComplete k).decX = s.decX := by rw [State.ttComplete_eq]

@[simp] theorem State.ttComplete_decY : (s.ttComplete k).decY = s.decY := by rw [State.ttComplete_eq]

@[simp] theorem State.ttComplete_seen : (s.ttComplete k).seen = s.seen := by rw [State.ttComplete_eq]

@[simp] theorem State.ttComplete_lastSeen : (s.ttComplete k).lastSeen = s.lastSeen := by rw [State.ttComplete_eq]

@[simp] theorem State.ttComplete_expired : (s.ttComplete k).expired = s.expired := by rw [State.ttComplete_eq]

@[simp] theorem State.ttComplete_aliveR : (s.ttComplete k).aliveR = s.aliveR := by rw [State.ttComplete_eq]

end

/-! ### Debounce -/

/-- DBN_START (R141): complete with keys 0 when every level reads 1, else pending in `w`. -/
theorem State.dbnStart_eq (s : State) (w : SeqPhase) :
    s.dbnStart w =
      if s.inp.btnRaw = 0b11111#5 then ((s.setDbn s.firstReads).setSampled 0#5, .complete 0#5)
      else ((s.setDbn s.firstReads).setSeq w, .pending) := rfl

/-- The state of button i after the first reads (R141). -/
@[simp] theorem State.firstReads_get (s : State) (i : Fin 5) :
    s.firstReads.get i = Button.firstRead s.par.debounceCycles (s.rawLevel i) := by
  simp [State.firstReads]

/-- The state of button i after a debounce edge (R142). -/
@[simp] theorem State.tickButtons_get (s : State) (i : Fin 5) :
    s.tickButtons.get i = (s.dbn.get i).tick s.par.dbnW (s.rawLevel i) := by
  simp [State.tickButtons]

/-- The debounce step (R142): the buttons tick; at the edge where none waits on, the keys are stored and the operation
goes on. -/
theorem State.debounceStep_eq (s : State) :
    s.debounceStep =
      if s.sampleDone = false then s.setDbn s.tickButtons
      else if s.seq = .sbWait then ((s.setDbn s.tickButtons).setSampled s.secondReadKeys).setSeq .idle
      else ((s.setDbn s.tickButtons).setSampled s.secondReadKeys).ttComplete s.secondReadKeys := by
  unfold State.debounceStep
  cases h : s.sampleDone <;> by_cases hq : s.seq = .sbWait <;> simp [hq]

/-- A button at rest does not move at a debounce edge (R142). -/
theorem Button.tick_of_idle {b : Button} (w : Nat) (raw : Bool) (h : b.phase = .idle) : b.tick w raw = b := by
  simp [Button.tick, Button.atSecondRead, h]

/-- A button at count 1 is read again (R142). -/
theorem Button.tick_of_secondRead {b : Button} (w : Nat) (raw : Bool) (h : b.phase = .wait) (h1 : b.count = 1) :
    b.tick w raw = { level := raw, phase := .idle, count := 0 } := by
  simp [Button.tick, Button.atSecondRead, h, h1]

/-- A button whose count is above 1 and fits DBN_W counts down (R142). -/
theorem Button.tick_of_waiting {b : Button} {w : Nat} (raw : Bool) (h : b.phase = .wait) (h1 : 1 < b.count)
    (h2 : b.count < 2 ^ w) : b.tick w raw = { b with count := b.count - 1 } := by
  have hne : b.count ≠ 1 := by omega
  simp [Button.tick, Button.atSecondRead, h, hne, subMod_of_le (show 1 ≤ b.count by omega) h2]

/-- `done` (R142): no button waits on. -/
theorem State.sampleDone_iff (s : State) :
    s.sampleDone = true ↔ ∀ i, ¬ ((s.dbn.get i).phase = .wait ∧ 1 < (s.dbn.get i).count) := by
  simp only [State.sampleDone, Bool.not_eq_true', PerButton.any_eq_false_iff]
  apply forall_congr'
  intro i
  simp [Button.stillWaiting]

/-- TX_TICK at its accepting edge (R200): a whole tick when every level reads 1, else a wait. -/
theorem execTxTick_eq (s : State) :
    execTxTick s =
      .next (if s.inp.btnRaw = 0b11111#5 then ((s.setDbn s.firstReads).setSampled 0#5).ttComplete 0#5
        else (s.setDbn s.firstReads).setSeq .ttWait) := by
  rw [execTxTick, State.dbnStart_eq]
  split_ifs <;> rfl

/-! ### Liveness -/

/-- The expiry's condition looks at the ports, the build and three registers only (R223). -/
theorem State.timedOut_congr {s u : State} (hi : u.inp = s.inp) (hp : u.par = s.par) (hs : u.seen = s.seen)
    (hl : u.lastSeen = s.lastSeen) (he : u.expired = s.expired) : u.timedOut = s.timedOut := by
  have h1 : u.timeoutIn = s.timeoutIn := by rw [State.timeoutIn, hi, hp]; rfl
  have h2 : u.delta u.nowIn = s.delta s.nowIn := by rw [State.delta, State.nowIn, hi, hp, hl]; rfl
  rw [State.timedOut, h1, h2, hs, he]
  rfl

theorem State.delta_lt (s : State) (t : Nat) : s.delta t < 2 ^ s.par.tW := subMod_lt _ _ _

/-- Right after a refresh DELTA is 0, so the expiry does nothing: "the refresh wins" (R223). -/
@[simp] theorem State.timedOut_refresh (s : State) : s.refresh.timedOut = false := by
  simp [State.timedOut, State.delta, State.refresh, State.nowIn]

/-- The expiry (R223): EXPIRED is set when the timeout has passed, and nothing else changes. -/
theorem State.expire_eq (s : State) : s.expire = { s with expired := s.timedOut || s.expired } := by
  unfold State.expire
  cases h : s.timedOut <;> rfl

section
variable (s : State)

@[simp] theorem State.finishEdge_par : s.finishEdge.par = s.par := by
  simp [State.finishEdge, State.expire_eq]

@[simp] theorem State.finishEdge_inp : s.finishEdge.inp = s.sched.head?.getD s.inp := by
  simp [State.finishEdge, State.expire_eq]

@[simp] theorem State.finishEdge_sched : s.finishEdge.sched = s.sched.tail := by
  simp [State.finishEdge, State.expire_eq]

@[simp] theorem State.finishEdge_seq : s.finishEdge.seq = s.seq := by
  simp [State.finishEdge, State.expire_eq]

@[simp] theorem State.finishEdge_dbn : s.finishEdge.dbn = s.dbn := by
  simp [State.finishEdge, State.expire_eq]

@[simp] theorem State.finishEdge_sampledKeys : s.finishEdge.sampledKeys = s.sampledKeys := by
  simp [State.finishEdge, State.expire_eq]

@[simp] theorem State.finishEdge_curValid : s.finishEdge.curValid = s.curValid := by
  simp [State.finishEdge, State.expire_eq]

@[simp] theorem State.finishEdge_curKeys : s.finishEdge.curKeys = s.curKeys := by
  simp [State.finishEdge, State.expire_eq]

@[simp] theorem State.finishEdge_curX : s.finishEdge.curX = s.curX := by
  simp [State.finishEdge, State.expire_eq]

@[simp] theorem State.finishEdge_curY : s.finishEdge.curY = s.curY := by
  simp [State.finishEdge, State.expire_eq]

@[simp] theorem State.finishEdge_changed : s.finishEdge.changed = s.changed := by
  simp [State.finishEdge, State.expire_eq]

@[simp] theorem State.finishEdge_kaCnt : s.finishEdge.kaCnt = s.kaCnt := by
  simp [State.finishEdge, State.expire_eq]

@[simp] theorem State.finishEdge_frameOut : s.finishEdge.frameOut = s.frameOut := by
  simp [State.finishEdge, State.expire_eq]

@[simp] theorem State.finishEdge_txStb : s.finishEdge.txStb = s.txStb := by
  simp [State.finishEdge, State.expire_eq]

@[simp] theorem State.finishEdge_illegalStb : s.finishEdge.illegalStb = s.illegalStb := by
  simp [State.finishEdge, State.expire_eq]

@[simp] theorem State.finishEdge_cksResult : s.finishEdge.cksResult = s.cksResult := by
  simp [State.finishEdge, State.expire_eq]

@[simp] theorem State.finishEdge_decCode : s.finishEdge.decCode = s.decCode := by
  simp [State.finishEdge, State.expire_eq]

@[simp] theorem State.finishEdge_decKeys : s.finishEdge.decKeys = s.decKeys := by
  simp [State.finishEdge, State.expire_eq]

@[simp] theorem State.finishEdge_decX : s.finishEdge.decX = s.decX := by
  simp [State.finishEdge, State.expire_eq]

@[simp] theorem State.finishEdge_decY : s.finishEdge.decY = s.decY := by
  simp [State.finishEdge, State.expire_eq]

@[simp] theorem State.finishEdge_seen : s.finishEdge.seen = s.seen := by
  simp [State.finishEdge, State.expire_eq]

@[simp] theorem State.finishEdge_lastSeen : s.finishEdge.lastSeen = s.lastSeen := by
  simp [State.finishEdge, State.expire_eq]

@[simp] theorem State.finishEdge_expired : s.finishEdge.expired = (s.timedOut || s.expired) := by
  simp [State.finishEdge, State.expire_eq]

@[simp] theorem State.finishEdge_aliveR : s.finishEdge.aliveR = s.aliveR := by
  simp [State.finishEdge, State.expire_eq]

end

/-! ### One edge -/

/-- A build has no refusal exactly when it is legal. -/
theorem State.buildRefusal_eq_none_iff (s : State) : s.buildRefusal = none ↔ s.par.legal = true := by
  unfold State.buildRefusal Params.legal
  cases s.par.preambleOk <;> cases s.par.debounceOk <;> cases s.par.widthsOk <;> simp

/-- One edge of a legal build, case by case (R20, R102, R270). -/
theorem step_of_legal {s : State} (h : s.par.legal = true) :
    step s =
      if s.inp.rst then .next s.resetRegisters.advancePorts
      else if s.seq ≠ .idle then .next s.returnStrobes.sequencerStep.finishEdge
      else if s.inp.opValid then afterOperation (exec s.offered s.returnStrobes)
      else .next s.returnStrobes.finishEdge := by
  rw [step, (State.buildRefusal_eq_none_iff s).mpr h]

/-- Everything an edge can do: a step that answers a next state was a reset edge, a sequencer step, an accepted operation
or an idle edge, of a legal build. -/
theorem step_cases {s t : State} (h : step s = .next t) :
    s.par.legal = true ∧
      ((s.inp.rst = true ∧ t = s.resetRegisters.advancePorts) ∨
        (s.inp.rst = false ∧ s.seq ≠ .idle ∧ t = s.returnStrobes.sequencerStep.finishEdge) ∨
        (s.inp.rst = false ∧ s.seq = .idle ∧ s.inp.opValid = true ∧
          ∃ u, exec s.offered s.returnStrobes = .next u ∧ t = u.finishEdge) ∨
        (s.inp.rst = false ∧ s.seq = .idle ∧ s.inp.opValid = false ∧ t = s.returnStrobes.finishEdge)) := by
  have hl : s.par.legal = true := by
    rw [← State.buildRefusal_eq_none_iff]
    cases hb : s.buildRefusal with
    | none => rfl
    | some r => simp [step, hb] at h
  refine ⟨hl, ?_⟩
  rw [step_of_legal hl] at h
  cases hr : s.inp.rst
  · by_cases hq : s.seq = .idle
    · cases hv : s.inp.opValid
      · simp [hr, hq, hv] at h
        simp [hq, h]
      · simp [hr, hq, hv] at h
        cases hx : exec s.offered s.returnStrobes with
        | next u => simp [hx, afterOperation] at h; simp [hq, h]
        | fault r => exact r.rec
        | refused r => simp [hx, afterOperation] at h
    · simp [hr, hq] at h
      simp [hq, h]
  · simp [hr] at h
    simp [h]

end Machine

end Sys2Proof
end

