-- ==== Sys2Proof/Laws/PerInstr.lean ====
section
/-!
SUPPORT. The family EncodedInItsRow: an instruction's encoding lies in the table row of its mnemonic (spec/30_encoding.md
R101), or, for a wire frame, has the one legal length (R114). One lemma for each constructor.
-/

namespace Sys2Proof.Laws

/-- The encoding of `i` is one of its row's: a command code covered by a row of `i`'s mnemonic, or a frame of length 7. -/
def EncodedInItsRow.Statement (i : Instr) : Prop :=
  ∀ kaPre : Byte,
    match encode kaPre i with
    | .command op => ∃ r ∈ commandRows, r.mnemonic = i.mnemonic ∧ r.covers op = true
    | .wire len _ => len = Config.frameLen

theorem EncodedInItsRow.nop : EncodedInItsRow.Statement .nop :=
  fun _ => ⟨⟨"NOP", 0xF#4, 0x0#4⟩, by decide, rfl, by decide⟩

theorem EncodedInItsRow.sampleButtons : EncodedInItsRow.Statement .sampleButtons :=
  fun _ => ⟨⟨"SAMPLE_BUTTONS", 0xF#4, 0x1#4⟩, by decide, rfl, by decide⟩

theorem EncodedInItsRow.hasChanged : EncodedInItsRow.Statement .hasChanged :=
  fun _ => ⟨⟨"HAS_CHANGED", 0xF#4, 0x2#4⟩, by decide, rfl, by decide⟩

theorem EncodedInItsRow.encStatus : EncodedInItsRow.Statement .encStatus :=
  fun _ => ⟨⟨"ENC_STATUS", 0xF#4, 0x3#4⟩, by decide, rfl, by decide⟩

theorem EncodedInItsRow.encKeepalive : EncodedInItsRow.Statement .encKeepalive :=
  fun _ => ⟨⟨"ENC_KEEPALIVE", 0xF#4, 0x4#4⟩, by decide, rfl, by decide⟩

theorem EncodedInItsRow.decode : EncodedInItsRow.Statement .decode :=
  fun _ => ⟨⟨"DECODE", 0xF#4, 0x5#4⟩, by decide, rfl, by decide⟩

theorem EncodedInItsRow.checksum : EncodedInItsRow.Statement .checksum :=
  fun _ => ⟨⟨"CHECKSUM", 0xF#4, 0x6#4⟩, by decide, rfl, by decide⟩

theorem EncodedInItsRow.txTick : EncodedInItsRow.Statement .txTick :=
  fun _ => ⟨⟨"TX_TICK", 0xF#4, 0x7#4⟩, by decide, rfl, by decide⟩

theorem EncodedInItsRow.isAlive : EncodedInItsRow.Statement .isAlive :=
  fun _ => ⟨⟨"IS_ALIVE", 0xF#4, 0x8#4⟩, by decide, rfl, by decide⟩

theorem EncodedInItsRow.reserved9 : EncodedInItsRow.Statement .reserved9 :=
  fun _ => ⟨⟨"RESERVED", 0xF#4, 0x9#4⟩, by decide, rfl, by decide⟩

theorem EncodedInItsRow.reservedAB (lo : BitVec 1) : EncodedInItsRow.Statement (.reservedAB lo) :=
  fun _ => ⟨⟨"RESERVED", 0xE#4, 0xA#4⟩, by decide, rfl, by revert lo; decide⟩

theorem EncodedInItsRow.reservedCF (lo : BitVec 2) : EncodedInItsRow.Statement (.reservedCF lo) :=
  fun _ => ⟨⟨"RESERVED", 0xC#4, 0xC#4⟩, by decide, rfl, by revert lo; decide⟩

theorem EncodedInItsRow.frameStatus (keys : BitVec 8) (x y : BitVec 16) :
    EncodedInItsRow.Statement (.frameStatus keys x y) :=
  fun _ => rfl

theorem EncodedInItsRow.frameKeepalive (payload : BitVec 40) :
    EncodedInItsRow.Statement (.frameKeepalive payload) :=
  fun _ => rfl

theorem EncodedInItsRow.frameUnknown (preamble : BitVec 8) (payload : BitVec 40) :
    EncodedInItsRow.Statement (.frameUnknown preamble payload) :=
  fun _ => rfl

end Sys2Proof.Laws
end

