-- ==== Sys2Proof/Machine/Listing.lean ====
section
/-!
DEFINITION. The host of spec/30_encoding.md R115: a program for OSJ-LPE as a list of lines, and what each line makes the
host drive. The listing is the host, so it runs a state whose schedule is empty (log 19).
-/

namespace Sys2Proof.Machine

/-- Operand assignments of an operation line; a name left out keeps its port as it is. -/
structure LineArgs where
  keys : Option (BitVec 5) := none
  x : Option (BitVec 10) := none
  y : Option (BitVec 10) := none
  len : Option Nat := none
  frame : Option Frame := none
  deriving DecidableEq, Repr

/-- Assignments of an `.env` line. -/
structure EnvArgs where
  btn : Option (BitVec 5) := none
  ax : Option (BitVec 10) := none
  ay : Option (BitVec 10) := none
  now : Option Nat := none
  deriving DecidableEq, Repr

/-- Assignments of a `.cfg` line. -/
structure CfgArgs where
  thrX : Option (BitVec 10) := none
  thrY : Option (BitVec 10) := none
  ka : Option Nat := none
  timeout : Option Nat := none
  deriving DecidableEq, Repr

/-- One line of a listing (R115). -/
inductive Line where
  /-- An operation line, written with its code; `.raw 0xN` is this line without operands. -/
  | op (code : BitVec 4) (args : LineArgs)
  /-- `.env`: the environment ports from the next edge on. -/
  | env (args : EnvArgs)
  /-- `.cfg`: the configuration ports. -/
  | cfg (args : CfgArgs)
  /-- `.reset`: `rst_i = 1` for one edge. -/
  | reset
  deriving DecidableEq, Repr

/-- The ports while an operation line is offered. -/
def Inputs.offer (p : Inputs) (code : BitVec 4) (a : LineArgs) : Inputs :=
  { p with
    opValid := true
    op := code
    argKeys := a.keys.getD p.argKeys
    argX := a.x.getD p.argX
    argY := a.y.getD p.argY
    rxLen := a.len.getD p.rxLen
    rxFrame := a.frame.getD p.rxFrame }

/-- The ports after an `.env` line. -/
def Inputs.env (p : Inputs) (a : EnvArgs) : Inputs :=
  { p with
    btnRaw := a.btn.getD p.btnRaw
    axisX := a.ax.getD p.axisX
    axisY := a.ay.getD p.axisY
    now := a.now.getD p.now }

/-- The ports after a `.cfg` line. -/
def Inputs.cfg (p : Inputs) (a : CfgArgs) : Inputs :=
  { p with
    thrX := a.thrX.getD p.thrX
    thrY := a.thrY.getD p.thrY
    kaInterval := a.ka.getD p.kaInterval
    timeout := a.timeout.getD p.timeout }

/-- Edges until `ready_o = 1`, at most `fuel` of them. -/
def waitReady : Nat → State → Host.Outcome State Fault Refusal
  | 0, s => .next s
  | fuel + 1, s =>
    if s.ready then .next s
    else
      match step s with
      | .next t => waitReady fuel t
      | .fault r => .fault r
      | .refused r => .refused r

/-- One edge with the ports `p`; afterwards the host drives no operation and no reset. -/
def edgeWith (p : Inputs) (s : State) : Host.Outcome State Fault Refusal :=
  match step { s with inp := p } with
  | .next t => .next { t with inp := { t.inp with opValid := false, rst := false } }
  | .fault r => .fault r
  | .refused r => .refused r

/-- What one line does (R115). An operation line "means: offer the code with these operands and hold them until the
operation is accepted, then wait until `ready_o = 1`"; R276 bounds each wait by DEBOUNCE_CYCLES + 2 edges. -/
def runLine (l : Line) (s : State) : Host.Outcome State Fault Refusal :=
  match l with
  | .op code a =>
    match waitReady (s.par.debounceCycles + 2) { s with inp := s.inp.offer code a } with
    | .next t =>
      match edgeWith t.inp t with
      | .next u => waitReady (u.par.debounceCycles + 2) u
      | .fault r => .fault r
      | .refused r => .refused r
    | .fault r => .fault r
    | .refused r => .refused r
  | .env a => .next { s with inp := s.inp.env a }
  | .cfg a => .next { s with inp := s.inp.cfg a }
  | .reset => edgeWith { s.inp with rst := true } s

/-- A listing, line by line. -/
def runListing : List Line → State → Host.Outcome State Fault Refusal
  | [], s => .next s
  | l :: ls, s =>
    match runLine l s with
    | .next t => runListing ls t
    | .fault r => .fault r
    | .refused r => .refused r

end Sys2Proof.Machine
end

