-- ==== Sys2Proof/Tests/Slice0.lean ====
section
/-!
SUPPORT. The model's own tests, and for each statement with hypotheses a state that meets them. Expected values are those
of spec/95_test_vectors.md (the vector is named) or counted by hand from the rule named.
-/

namespace Sys2Proof.Tests

open Sys2Proof.Machine

/-! ### Helpers -/

/-- A build with `KA_PREAMBLE = 0xE0`, `T_W = 32`, KA_W = 16, LEN_W = 8 (the defaults) and the given DEBOUNCE_CYCLES. -/
def build (d : Nat) : Params := ⟨0xE0#8, d, 32, 16, 8⟩

/-- The state after reset of that build with `DEBOUNCE_CYCLES = 3`. -/
def base : State := { State.reset with par := build 3 }

/-- The thresholds and the keepalive interval of the TX_TICK vectors. -/
def tickPorts : Inputs :=
  { Inputs.quiet with opValid := true, op := 0x7#4, axisX := 512#10, axisY := 512#10, thrX := 8#10, thrY := 8#10, kaInterval := 3 }

/-- `s` with the command `op` on the command port. -/
def offer (op : BitVec 4) (s : State) : State := { s with inp := { s.inp with opValid := true, op := op } }

/-- `s` with a received frame on the receive port. -/
def receive (len : Nat) (f : Frame) (s : State) : State := { s with inp := { s.inp with rxLen := len, rxFrame := f } }

/-- `s` with a stored sample. -/
def stored (keys : BitVec 5) (x y : BitVec 10) (s : State) : State :=
  { s with curValid := true, curKeys := keys, curX := x, curY := y }

/-- The next state of an outcome that has one. -/
def after : Host.Outcome State Fault Refusal → State
  | .next t => t
  | .fault _ => base
  | .refused _ => base

/-- The states of the edges from `s` on. -/
def trace (s : State) : Nat → State
  | 0 => s
  | n + 1 => after (step (trace s n))

/-! ### Well-formedness and builds -/

theorem test_wf_unknown_frame_with_status_preamble : (Instr.frameUnknown 0xAA#8 0#40).wellFormed 0xE0#8 = false := by decide

theorem test_wf_unknown_frame_with_keepalive_preamble : (Instr.frameUnknown 0xE0#8 0#40).wellFormed 0xE0#8 = false := by decide

theorem test_wf_unknown_frame : (Instr.frameUnknown 0x55#8 0x1103FF0000#40).wellFormed 0xE0#8 = true := by decide

theorem test_build_defaults_legal : (build 1).legal = true := by decide

theorem test_build_status_preamble_refused : ({ build 3 with kaPreamble := 0xAA#8 } : Params).legal = false := by decide

theorem test_build_no_debounce_refused : (build 0).legal = false := by decide

theorem test_build_widths_refused :
    ({ build 3 with tW := 1 } : Params).legal = false ∧ ({ build 3 with tW := 65 } : Params).legal = false ∧
      ({ build 3 with kaW := 0 } : Params).legal = false ∧ ({ build 3 with kaW := 33 } : Params).legal = false ∧
      ({ build 3 with lenW := 2 } : Params).legal = false ∧ ({ build 3 with lenW := 17 } : Params).legal = false := by
  decide

/-- R7: `max(1, ceil(log2(DEBOUNCE_CYCLES + 1)))`. -/
theorem test_dbnW : (build 1).dbnW = 1 ∧ (build 3).dbnW = 2 ∧ (build 4).dbnW = 3 ∧ (build 240000).dbnW = 18 := by decide

/-! ### Decoding: the words of spec/30_encoding.md R101, R105, R106, R110, bit by bit -/

theorem test_decode_command_words :
    decodeCommand 0b0000#4 = .nop ∧ decodeCommand 0b0001#4 = .sampleButtons ∧ decodeCommand 0b0010#4 = .hasChanged ∧
      decodeCommand 0b0011#4 = .encStatus ∧ decodeCommand 0b0100#4 = .encKeepalive ∧ decodeCommand 0b0101#4 = .decode ∧
      decodeCommand 0b0110#4 = .checksum ∧ decodeCommand 0b0111#4 = .txTick ∧ decodeCommand 0b1000#4 = .isAlive := by
  decide

theorem test_decode_reserved_words :
    decodeCommand 0b1001#4 = .reserved9 ∧ decodeCommand 0b1010#4 = .reservedAB 0#1 ∧
      decodeCommand 0b1011#4 = .reservedAB 1#1 ∧ decodeCommand 0b1100#4 = .reservedCF 0#2 ∧
      decodeCommand 0b1101#4 = .reservedCF 1#2 ∧ decodeCommand 0b1110#4 = .reservedCF 2#2 ∧
      decodeCommand 0b1111#4 = .reservedCF 3#2 := by
  decide

/-- L1-1: `AA 11 03 FF 00 00 47`, keys 0x11, x 0x03FF, y 0x0000. -/
theorem test_decode_status_word :
    decodeFrame 0xE0#8 7 0b10101010000100010000001111111111000000000000000001000111#56 =
      .ok (.frameStatus 0x11#8 0x03FF#16 0x0000#16) := by
  rfl

/-- L1-2: `E0 AA 55 AA 55 AA 4A`. -/
theorem test_decode_keepalive_word :
    decodeFrame 0xE0#8 7 0b11100000101010100101010110101010010101011010101001001010#56 =
      .ok (.frameKeepalive 0xAA55AA55AA#40) := by
  rfl

/-- L2-D10: `55 11 03 FF 00 00 B8`. -/
theorem test_decode_unknown_word :
    decodeFrame 0xE0#8 7 0b01010101000100010000001111111111000000000000000010111000#56 =
      .ok (.frameUnknown 0x55#8 0x1103FF0000#40) := by
  rfl

/-- L2-D7 (length wins over checksum) and L2-D11 (checksum wins over preamble). -/
theorem test_decode_error_order :
    decodeFrame 0xE0#8 6 0xAA1103FF00005D#56 = .error .lengthError ∧
      decodeFrame 0xE0#8 7 0x551103FF000047#56 = .error .checksumError :=
  ⟨rfl, rfl⟩

theorem test_decodeTableWord :
    decodeTableWord 8 0x5 = some .decode ∧ decodeTableWord 8 0xB = some (.reservedAB 1#1) ∧
      decodeTableWord 56 0xE0AA55AA55AA4A = some (.frameKeepalive 0xAA55AA55AA#40) ∧
      decodeTableWord 56 0xAA1103FF00005D = none := by
  decide

/-- The first step after reset runs the placed command. -/
theorem test_withFetchWord_command :
    step (State.reset.withFetchWord 8 0x4) = .next (after (exec .encKeepalive (State.reset.withFetchWord 8 0x4))) := by
  rfl

/-- The first step after reset runs the placed frame. -/
theorem test_withFetchWord_frame :
    step (State.reset.withFetchWord 56 0xE0AA55AA55AA4A) =
      .next (after (exec (.frameKeepalive 0xAA55AA55AA#40) (State.reset.withFetchWord 56 0xE0AA55AA55AA4A))) := by
  rfl

/-! ### One edge of each instruction -/

/-- L2-N1. -/
theorem test_nop : after (step (offer 0x0#4 base)) = offer 0x0#4 base := by decide

/-- L2-N2: the strobe is up after the edge that accepts a reserved code, and nothing else changes. -/
theorem test_reserved9 : after (step (offer 0x9#4 base)) = { offer 0x9#4 base with illegalStb := true } := by decide

/-- L2-N4's code, accepted. -/
theorem test_reservedAB : after (step (offer 0xA#4 base)) = { offer 0xA#4 base with illegalStb := true } := by decide

/-- L2-N3. -/
theorem test_reservedCF : after (step (offer 0xF#4 base)) = { offer 0xF#4 base with illegalStb := true } := by decide

/-- R56: the strobes are up for one cycle. -/
theorem test_strobes_return :
    after (step { base with txStb := true, illegalStb := true }) = { base with txStb := false, illegalStb := false } := by
  decide

/-- L2-B1: no button pressed, complete at once. -/
theorem test_sampleButtons_released :
    let t := after (step (offer 0x1#4 { base with sampledKeys := 0b10101#5 }))
    t.sampledKeys = 0#5 ∧ t.seq = .idle := by
  decide

/-- L2-B5's first read: K1 and K2 wait with count 3, SAMPLED_KEYS keeps its value. -/
theorem test_sampleButtons_pressed :
    let t := after (step (offer 0x1#4 { base with inp := { base.inp with btnRaw := 0b11100#5 }, sampledKeys := 1#5 }))
    t.seq = .sbWait ∧ t.dbn = ⟨⟨false, .wait, 3⟩, ⟨false, .wait, 3⟩, ⟨true, .idle, 0⟩, ⟨true, .idle, 0⟩, ⟨true, .idle, 0⟩⟩ ∧
      t.sampledKeys = 1#5 := by
  decide

/-- L2-B5's second read: K2 released, KZ pressed too late, keys 0b00001. -/
theorem test_second_read :
    let t := after (step { base with
      seq := .sbWait
      dbn := ⟨⟨false, .wait, 1⟩, ⟨false, .wait, 1⟩, ⟨true, .idle, 0⟩, ⟨true, .idle, 0⟩, ⟨true, .idle, 0⟩⟩
      inp := { base.inp with btnRaw := 0b01110#5 } })
    t.seq = .idle ∧ t.sampledKeys = 0b00001#5 ∧
      t.dbn = ⟨⟨false, .idle, 0⟩, ⟨true, .idle, 0⟩, ⟨true, .idle, 0⟩, ⟨true, .idle, 0⟩, ⟨true, .idle, 0⟩⟩ := by
  decide

/-- L2-H3: the x difference equals the threshold. -/
theorem test_hasChanged_at_threshold :
    let t := after (step (offer 0x2#4 (stored 0#5 512#10 512#10 { base with inp := { tickPorts with axisX := 520#10 } })))
    t.changed = false ∧ t.curX = 512#10 := by
  decide

/-- L2-H5: the y difference is 9, downwards; both axes are stored. -/
theorem test_hasChanged_above_threshold :
    let t := after (step (offer 0x2#4
      (stored 0#5 512#10 512#10 { base with inp := { tickPorts with axisX := 504#10, axisY := 503#10 } })))
    t.changed = true ∧ t.curX = 504#10 ∧ t.curY = 503#10 := by
  decide

/-- L2-E5. -/
theorem test_encStatus :
    let t := after (step (offer 0x3#4
      { base with inp := { base.inp with argKeys := 0x10#5, argX := 682#10, argY := 341#10 } }))
    t.frameOut = 0xAA1002AA015546#56 ∧ t.txStb = true ∧ t.curKeys = 0#5 := by
  decide

/-- L2-K1 and L2-K3. -/
theorem test_encKeepalive :
    (after (step (offer 0x4#4 base))).frameOut = 0xE0AA55AA55AA4A#56 ∧
      (after (step (offer 0x4#4 { base with par := { build 3 with kaPreamble := 0x00#8 } }))).frameOut =
        0x00AA55AA55AAAA#56 := by
  decide

/-- L2-D13: bytes 2 and 3 swapped, still checksum-valid; the refresh. -/
theorem test_decode_status :
    let t := after (step (offer 0x5#4
      (receive 7 0xAA11FF03000047#56 { base with inp := { base.inp with now := 500 } })))
    t.decCode = .status ∧ t.decKeys = 0x11#8 ∧ t.decX = 0xFF03#16 ∧ t.decY = 0#16 ∧ t.seen = true ∧ t.lastSeen = 500 := by
  decide

/-- L2-D9: one bit off; no refresh, the fields stay. -/
theorem test_decode_checksum_error :
    let t := after (step (offer 0x5#4 (receive 7 0xAA1103FF000046#56 { base with decKeys := 0x22#8 })))
    t.decCode = .checksumError ∧ t.decKeys = 0x22#8 ∧ t.seen = false := by
  decide

/-- L2-C4 and L2-C8. -/
theorem test_checksum :
    (after (step (offer 0x6#4 (receive 6 0x0000FF0311AA00#56 base)))).cksResult = 0x47#8 ∧
      (after (step (offer 0x6#4 (receive 255 0xAA1103FF000047#56 { base with cksResult := 1#8 })))).cksResult = 0#8 := by
  decide

/-- L2-T3: no change at the threshold, the Keepalive is due. -/
theorem test_txTick_keepalive :
    let t := after (step (stored 0#5 512#10 512#10 { base with inp := { tickPorts with axisX := 520#10 }, kaCnt := 2 }))
    t.frameOut = 0xE0AA55AA55AA4A#56 ∧ t.txStb = true ∧ t.kaCnt = 0 ∧ t.seq = .idle := by
  decide

/-- L2-T4: the Status frame now, the Keepalive owed, and sent at the next edge. -/
theorem test_txTick_both :
    let t := after (step (stored 0#5 600#10 512#10 { base with inp := { tickPorts with axisX := 700#10 }, kaCnt := 2 }))
    t.frameOut = 0xAA0002BC020016#56 ∧ t.kaCnt = 0 ∧ t.seq = .ttKa ∧
      (after (step t)).frameOut = 0xE0AA55AA55AA4A#56 ∧ (after (step t)).seq = .idle := by
  decide

/-- L2-A4: the difference equals the timeout. -/
theorem test_isAlive_at_timeout :
    let t := after (step (offer 0x8#4
      { base with seen := true, lastSeen := 1000, inp := { base.inp with now := 1100, timeout := 100 } }))
    t.aliveR = true ∧ t.expired = false := by
  decide

/-- L2-A11: `T_W = 8`, the time base has wrapped, the difference is 101. -/
theorem test_isAlive_past_timeout :
    let t := after (step (offer 0x8#4
      { base with
        par := { build 3 with tW := 8 }
        seen := true
        lastSeen := 250
        inp := { base.inp with now := 95, timeout := 100 } }))
    t.aliveR = false ∧ t.expired = true := by
  decide

/-- L2-A14: an expiry due at the edge of a good frame; the refresh wins. -/
theorem test_refresh_wins :
    let t := after (step (offer 0x5#4 (receive 7 0xE0AA55AA55AA4A#56
      { base with seen := true, lastSeen := 1000, inp := { base.inp with now := 1101, timeout := 100 } })))
    t.expired = false ∧ t.lastSeen = 1101 ∧ t.decCode = .keepalive := by
  decide

/-- The three frame rows, as L2-D14, L2-D12 and L2-D18 have them. -/
theorem test_frame_rows :
    (after (exec (.frameStatus 0xFF#8 0xFFFF#16 0xFFFF#16) base)).decX = 0xFFFF#16 ∧
      (after (exec (.frameKeepalive 0#40) base)).seen = true ∧
      (after (exec (.frameUnknown 0#8 0#40) base)).seen = false ∧
      (after (exec (.frameUnknown 0#8 0#40) base)).decCode = .unknownFrameType := by
  decide

/-- L2-R1: a reset in the debounce wait leaves no trace of the tick. -/
theorem test_reset_in_wait :
    after (step { base with
      seq := .ttWait
      dbn := PerButton.all ⟨false, .wait, 2⟩
      kaCnt := 2
      inp := { base.inp with rst := true } }) = { base with inp := { base.inp with rst := true } } := by
  decide

/-- The listing host of R115 on two lines of L3-1. -/
theorem test_listing :
    (after (runListing [.env ({ now := some 1000 } : EnvArgs), .op 0x5#4
      ({ len := some 7, frame := some 0xAA1103FF000047#56 } : LineArgs)] base)).lastSeen = 1000 := by
  decide

/-! ### Witnesses: for each statement with hypotheses, states and operands that meet them -/

theorem witness_DecodeUndoesEncode :
    (0xE0#8 : Byte) ≠ 0xAA#8 ∧ (Instr.frameUnknown 0xAB#8 (BitVec.allOnes 40)).wellFormed 0xE0#8 = true ∧
      (Instr.frameStatus 0xFF#8 0xFFFF#16 0#16).wellFormed 0xE0#8 = true := by
  decide

theorem witness_EncodeUndoesDecode :
    decode 0xE0#8 (.command 0xF#4) = .ok (.reservedCF 3#2) ∧
      decode 0xE0#8 (.wire 7 0x00000000000000#56) = .ok (.frameUnknown 0#8 0#40) :=
  ⟨rfl, rfl⟩

theorem witness_StepRunsTheOfferedOperation :
    (offer 0x8#4 base).par.legal = true ∧ (offer 0x8#4 base).inp.rst = false ∧ (offer 0x8#4 base).seq = .idle ∧
      (offer 0x8#4 base).inp.opValid = true := by
  decide

theorem witness_IdleEdgeChangesNothing :
    base.par.legal = true ∧ base.inp.rst = false ∧ base.seq = .idle ∧ base.inp.opValid = false := by
  decide

theorem witness_LegalBlockNeverStops : base.par.legal = true ∧ (build 1).legal = true := by decide

/-- A state of each refused build, each width at both ends. -/
theorem witness_IllegalBuildsAreRefused :
    ({ build 3 with kaPreamble := 0xAA#8 } : Params).kaPreamble = 0xAA#8 ∧
      (build 0).kaPreamble ≠ 0xAA#8 ∧ (build 0).debounceCycles = 0 ∧ (build 1).debounceCycles ≠ 0 ∧
      (∀ p ∈ ([{ build 1 with tW := 1 }, { build 1 with tW := 65 }, { build 1 with kaW := 0 },
          { build 1 with kaW := 33 }, { build 1 with lenW := 2 }, { build 1 with lenW := 17 }] : List Params),
        p.kaPreamble ≠ 0xAA#8 ∧ p.debounceCycles ≠ 0 ∧
          ¬ (2 ≤ p.tW ∧ p.tW ≤ 64 ∧ 1 ≤ p.kaW ∧ p.kaW ≤ 32 ∧ 3 ≤ p.lenW ∧ p.lenW ≤ 16)) := by
  decide

/-- One state with a schedule and one without. -/
theorem witness_BuildStaysAndPortsAdvance :
    step base = .next (after (step base)) ∧ base.sched = [] ∧
      step { base with sched := [tickPorts] } = .next (after (step { base with sched := [tickPorts] })) :=
  ⟨rfl, rfl, rfl⟩

theorem witness_ResetEdgeSetsEveryRegister :
    ({ base with inp := { base.inp with rst := true }, seq := .ttKa } : State).par.legal = true ∧
      ({ base with inp := { base.inp with rst := true }, seq := .ttKa } : State).inp.rst = true := by
  decide

theorem witness_OutputsAfterReset :
    step { base with inp := { base.inp with rst := true }, seen := true } =
      .next (after (step { base with inp := { base.inp with rst := true }, seen := true })) := by
  rfl

/-- NOP, and the first and the last reserved code; after the first reserved code, an edge with nothing offered. -/
theorem witness_NopAndReservedCodes :
    (∀ op ∈ [0x0#4, 0x9#4, 0xF#4], (offer op base).par.legal = true ∧ (offer op base).inp.rst = false ∧
      (offer op base).seq = .idle ∧ (offer op base).inp.opValid = true ∧
      ((offer op base).inp.op = 0x0#4 ∨ 9 ≤ (offer op base).inp.op.toNat)) ∧
      let s := { offer 0x9#4 base with sched := [Inputs.quiet] }
      s.par.legal = true ∧ s.inp.rst = false ∧ s.seq = .idle ∧ s.inp.opValid = true ∧ 9 ≤ s.inp.op.toNat ∧
        step s = .next (trace s 1) ∧ (trace s 1).illegalStb = true ∧ (trace s 1).inp.opValid = false ∧
        step (trace s 1) = .next (trace s 2) :=
  ⟨by decide, by decide, rfl, rfl, rfl, by decide, rfl, rfl, rfl, rfl⟩

/-- The codes on both sides of the first reserved one. -/
theorem witness_IllegalStrobeMarksReservedCodes :
    step (offer 0x8#4 base) = .next (after (step (offer 0x8#4 base))) ∧
      step (offer 0x9#4 base) = .next (after (step (offer 0x9#4 base))) :=
  ⟨rfl, rfl⟩

/-- No button pressed, and exactly one pressed. -/
theorem witness_SampleButtonsFirstRead :
    base.inp.btnRaw = 0b11111#5 ∧ ({ base.inp with btnRaw := 0b01111#5 } : Inputs).btnRaw ≠ 0b11111#5 := by
  decide

/-- A SAMPLE_BUTTONS in flight with K1 waiting at count `c`. -/
def waiting (c : Nat) : State :=
  { base with seq := .sbWait, dbn := ⟨⟨false, .wait, c⟩, Button.released, Button.released, Button.released, Button.released⟩ }

/-- A sample in flight at a count from 1 to 3 meets the invariant. -/
theorem waiting_inv {c : Nat} (h1 : 1 ≤ c) (h3 : c ≤ 3) : (waiting c).Inv where
  legal := show (build 3).legal = true by decide
  kaCnt_lt := Nat.two_pow_pos _
  lastSeen_lt := Nat.two_pow_pos _
  atRest := fun h => absurd (Or.inl rfl) h
  inFlight := fun _ => by
    refine ⟨c, h1, h3, ⟨0, rfl⟩, fun i => ?_⟩
    fin_cases i <;> simp [waiting, PerButton.get, Button.released]
  frameSealed := show cks6 0#56 = byteOf 0#56 6 by decide
  oneStrobe := fun h => by cases h.1
  quietWait := fun _ => ⟨rfl, rfl⟩
  slot := fun h => by cases h
  unstored := fun _ => ⟨rfl, rfl, rfl, rfl⟩
  unseen := fun _ => ⟨rfl, rfl, rfl, by simp [waiting, base, State.reset], by simp [waiting, base, State.reset], rfl, rfl, rfl⟩

/-- At count 3 a button waits on; at count 1 it is read again and none waits on; K2 is at rest in both. -/
theorem witness_DebounceEdge :
    ((waiting 3).Inv ∧ (waiting 3).inp.rst = false ∧ (waiting 3).seq = .sbWait ∧
      ((waiting 3).dbn.get 0).phase = .wait ∧ ((waiting 3).dbn.get 0).count ≠ 1 ∧ 1 < ((waiting 3).dbn.get 0).count) ∧
      (waiting 1).Inv ∧ (waiting 1).inp.rst = false ∧ (waiting 1).seq = .sbWait ∧
      ((waiting 1).dbn.get 0).phase = .wait ∧ ((waiting 1).dbn.get 0).count = 1 ∧ ((waiting 1).dbn.get 1).phase = .idle ∧
      ∀ i : Fin 5, ¬ (((waiting 1).dbn.get i).phase = .wait ∧ 1 < ((waiting 1).dbn.get i).count) :=
  ⟨⟨waiting_inv (by decide) (by decide), rfl, rfl, rfl, by decide, by decide⟩,
    waiting_inv (by decide) (by decide), rfl, rfl, rfl, rfl, rfl, by decide⟩

/-- A press of K1 and K2 at edge 0; at edge 2, K2 released and KZ pressed (L2-B5 with `DEBOUNCE_CYCLES = 2`). -/
def pressed (op : BitVec 4) : State :=
  { base with
    par := build 2
    inp := { tickPorts with op := op, btnRaw := 0b11100#5 }
    sched := [{ tickPorts with opValid := false, btnRaw := 0b01100#5 }, { tickPorts with opValid := false, btnRaw := 0b01110#5 }] }

theorem witness_SampleKeepsWhatBothReadsSaw :
    (trace (pressed 0x1#4) 0).par.debounceCycles = 2 ∧ Runs (trace (pressed 0x1#4)) 3 ∧
      (∀ k, k ≤ 2 → (trace (pressed 0x1#4) k).inp.rst = false) ∧ (trace (pressed 0x1#4) 0).seq = .idle ∧
      (trace (pressed 0x1#4) 0).inp.opValid = true ∧ (trace (pressed 0x1#4) 0).inp.op = 0x1#4 ∧
      (trace (pressed 0x1#4) 0).inp.btnRaw ≠ 0b11111#5 := by
  refine ⟨rfl, fun k hk => ?_, by decide, rfl, rfl, rfl, by decide⟩
  interval_cases k <;> rfl

/-- A change at the first call (`curValid = 0`), and none where each difference equals its threshold. -/
theorem witness_HasChangedComparesAndStores :
    base.curValid = false ∧
      let s := stored 0#5 520#10 504#10 { base with inp := tickPorts }
      ¬ (s.curValid = false ∨ s.sampledKeys ≠ s.curKeys ∨
        s.inp.thrX.toNat < ((s.inp.axisX.toNat : Int) - s.curX.toNat).natAbs ∨
        s.inp.thrY.toNat < ((s.inp.axisY.toNat : Int) - s.curY.toNat).natAbs) := by
  decide

theorem witness_SecondHasChangedReportsNothing : exec .hasChanged base = .next (after (exec .hasChanged base)) := by rfl

/-- The lengths 0, 6, 7 and 255. -/
theorem witness_ChecksumTellsValidFrames :
    ∀ n ∈ [0, 6, 7, 255], exec .checksum (receive n 0xAA1103FF000047#56 base) =
        .next (after (exec .checksum (receive n 0xAA1103FF000047#56 base))) ∧
      (receive n 0xAA1103FF000047#56 base).rxLenIn = n := by
  intro n hn
  fin_cases hn <;> exact ⟨rfl, by decide⟩

/-- L2-D4, L2-D9, L2-D1, L2-D2 and L2-D10, one for each clause. -/
theorem witness_DecodeFollowsTheFiveResults :
    (receive 6 0xAA1103FF000047#56 base).rxLenIn ≠ 7 ∧ (receive 7 0xAA1103FF000047#56 base).rxLenIn = 7 ∧
      cks6 0xAA1103FF000046#56 ≠ byteOf 0xAA1103FF000046#56 6 ∧
      cks6 0xAA1103FF000047#56 = byteOf 0xAA1103FF000047#56 6 ∧ byteOf 0xAA1103FF000047#56 0 = 0xAA#8 ∧
      cks6 0xE0AA55AA55AA4A#56 = byteOf 0xE0AA55AA55AA4A#56 6 ∧ byteOf 0xE0AA55AA55AA4A#56 0 = base.par.kaPreamble ∧
      cks6 0x551103FF0000B8#56 = byteOf 0x551103FF0000B8#56 6 ∧ byteOf 0x551103FF0000B8#56 0 ≠ 0xAA#8 ∧
      byteOf 0x551103FF0000B8#56 0 ≠ base.par.kaPreamble := by
  decide

theorem witness_DecodeActsAsTheFrameRow :
    decodeFrame (receive 7 0xE00000000000E0#56 base).par.kaPreamble (receive 7 0xE00000000000E0#56 base).rxLenIn
      (receive 7 0xE00000000000E0#56 base).inp.rxFrame = .ok (.frameKeepalive 0#40) := by
  rfl

theorem witness_DecodeResultCodes :
    ∀ c ∈ [DecCode.none, .status, .keepalive, .lengthError, .checksumError, .unknownFrameType],
      ({ base with decCode := c } : State).decCode = c := by
  decide

theorem witness_CodecRoundTrip :
    (0xAB#8 : Byte) ≠ 0xAA#8 ∧ encS 0x1F#5 1023#10 1023#10 = encS 0x1F#5 1023#10 1023#10 := by
  decide

theorem witness_UndetectedErrorPatterns : cks6 0xAA1103FF000047#56 = byteOf 0xAA1103FF000047#56 6 := by decide

/-- The frame of L1-1, an error in byte 6 alone, and the last bit. -/
theorem witness_OneByteErrorsAreDetected :
    cks6 0xAA1103FF000047#56 = byteOf 0xAA1103FF000047#56 6 ∧ byteOf 0xFF#56 6 ≠ 0#8 ∧
      (∀ j, j < 7 → j ≠ 6 → byteOf 0xFF#56 j = 0#8) ∧ 55 < 56 := by
  decide

/-- L2-D13's frame is L1-1's with bytes 2 and 3 swapped. -/
theorem witness_ReorderingIsNotDetected :
    (firstBytes 0xAA11FF03000047#56 7).Perm (firstBytes 0xAA1103FF000047#56 7) ∧
      cks6 0xAA1103FF000047#56 = byteOf 0xAA1103FF000047#56 6 := by
  decide

/-- L2-D16 the other way round: preamble 0xE1 at a block built with 0xE0. -/
theorem witness_OtherPreambleIsUnknown :
    (0xE1#8 : Byte) ≠ 0xAA#8 ∧ 0xE1#8 ≠ (receive 7 (encK 0xE1#8) base).par.kaPreamble ∧
      (receive 7 (encK 0xE1#8) base).rxLenIn = 7 ∧ (receive 7 (encK 0xE1#8) base).inp.rxFrame = encK 0xE1#8 := by
  decide

/-- Six bytes delivered; the undelivered byte 6 differs. -/
theorem witness_UndeliveredBytesHaveNoEffect :
    let s := receive 6 0xAA1103FF000047#56 base
    (∀ k, k < s.rxLenIn → k < 7 → byteOf 0xAA1103FF0000FF#56 k = byteOf s.inp.rxFrame k) ∧
      exec .decode s = .next (after (exec .decode s)) ∧ exec .checksum s = .next (after (exec .checksum s)) := by
  refine ⟨by decide, rfl, rfl⟩

/-- The counter one below the interval, and at the last count before it; the interval 0 acts as 1. -/
theorem witness_KeepaliveCounterStep :
    let s := { base with inp := tickPorts, kaCnt := 2 }
    max s.kaIntervalIn 1 ≤ s.kaCnt + 1 ∧ max base.kaIntervalIn 1 ≤ base.kaCnt + 1 ∧
      let u := { base with inp := tickPorts, kaCnt := 1 }
      u.kaCnt + 1 < max u.kaIntervalIn 1 := by
  decide

theorem witness_TxTickAtItsAcceptingEdge :
    (pressed 0x7#4).inp.btnRaw ≠ 0b11111#5 ∧ ({ base with inp := tickPorts } : State).inp.btnRaw = 0b11111#5 := by
  decide

theorem witness_KeepaliveSlotSendsTheOwedFrame :
    ({ base with seq := .ttKa } : State).par.legal = true ∧ ({ base with seq := .ttKa } : State).inp.rst = false ∧
      ({ base with seq := .ttKa } : State).seq = .ttKa := by
  decide

theorem witness_TxTickWithAPressCompletesLater :
    (trace (pressed 0x7#4) 0).par.debounceCycles = 2 ∧ Runs (trace (pressed 0x7#4)) 3 ∧
      (∀ k, k ≤ 2 → (trace (pressed 0x7#4) k).inp.rst = false) ∧ (trace (pressed 0x7#4) 0).seq = .idle ∧
      (trace (pressed 0x7#4) 0).inp.opValid = true ∧ (trace (pressed 0x7#4) 0).inp.op = 0x7#4 ∧
      (trace (pressed 0x7#4) 0).inp.btnRaw ≠ 0b11111#5 := by
  refine ⟨rfl, fun k hk => ?_, by decide, rfl, rfl, rfl, by decide⟩
  interval_cases k <;> rfl

/-- The first tick after reset with the interval 1: a change and a Keepalive due. -/
theorem witness_TwoFramesInConsecutiveCycles :
    let s := { base with inp := { tickPorts with kaInterval := 1 } }
    s.completesTick = true ∧ step s = .next (trace s 1) ∧ (trace s 1).seq = .ttKa ∧ (trace s 1).inp.rst = false ∧
      step (trace s 1) = .next (trace s 2) :=
  ⟨rfl, rfl, rfl, rfl, rfl⟩

/-- Four ticks with the interval 2: a change, a Keepalive, nothing, and a change with a Keepalive. -/
def ticking : State :=
  { base with
    inp := { tickPorts with kaInterval := 2 }
    sched := [{ tickPorts with kaInterval := 2 }, { tickPorts with kaInterval := 2 },
      { tickPorts with kaInterval := 2, axisX := 0#10 }] }

theorem witness_KeepaliveEveryIntervalTicks :
    Runs (trace ticking) 4 ∧ (∀ k, k < 4 → (trace ticking k).inp.rst = false) ∧
      (∀ k, k < 4 → max (trace ticking k).kaIntervalIn 1 = 2) ∧ (trace ticking 0).kaCnt = 0 ∧
      (∀ k, k < 4 → (trace ticking k).completesTick = true) ∧
      (¬ 2 ∣ ticksDone (trace ticking) 0 + 1 ∧ (trace ticking 1).changed = true) ∧
      (2 ∣ ticksDone (trace ticking) 1 + 1 ∧ (trace ticking 2).changed = false) ∧
      (¬ 2 ∣ ticksDone (trace ticking) 2 + 1 ∧ (trace ticking 3).changed = false) ∧
      2 ∣ ticksDone (trace ticking) 3 + 1 ∧ (trace ticking 4).changed = true := by
  refine ⟨fun k hk => ?_, by decide, by decide, rfl, by decide, by decide, by decide, by decide, by decide⟩
  interval_cases k <;> rfl

/-- Ticks offered at every edge with K1 held pressed, DEBOUNCE_CYCLES = 1 and the interval 2. -/
def held : State := { base with par := build 1, inp := { tickPorts with btnRaw := 0b11110#5, kaInterval := 2 } }

/-- A run with K1 held pressed, whose two ticks complete at the edges 1 and 3, with a change in the first and, at the interval
2, a Keepalive due in the second; and two ticks as exec makes them with no button pressed. -/
theorem witness_UnchangedInputIsNotSentAgain :
    (Runs (trace held) 4 ∧ (trace held 0).seq = .idle ∧
      (∀ k, k < 4 → (trace held k).inp.rst = false ∧ (trace held k).inp.btnRaw = 0b11110#5 ∧
        (trace held k).inp.axisX = 512#10 ∧ (trace held k).inp.axisY = 512#10 ∧ (trace held k).inp.thrX = 8#10 ∧
        (trace held k).inp.thrY = 8#10) ∧
      (trace held 1).completesTick = true ∧ (trace held 3).completesTick = true ∧ (trace held 2).curKeys = 0b00001#5 ∧
      (trace held 2).txStb = true ∧ (trace held 4).frameOut = 0xE0AA55AA55AA4A#56) ∧
      let s := { base with inp := tickPorts }
      s.inp.btnRaw = 0b11111#5 ∧ exec .txTick s = .next (after (exec .txTick s)) ∧
        exec .txTick (after (exec .txTick s)) = .next (after (exec .txTick (after (exec .txTick s)))) := by
  refine ⟨⟨fun k hk => ?_, rfl, by decide, rfl, rfl, rfl, rfl, by decide⟩, rfl, rfl, rfl⟩
  interval_cases k <;> rfl

/-- LAST_SEEN at the top of its range. -/
theorem witness_DeltaIsTheModularDifference :
    let s := { base with par := { build 3 with tW := 8 }, lastSeen := 255 }
    s.lastSeen < 2 ^ s.par.tW := by
  decide

/-- An edge that accepts a good frame (L2-D1), and one that accepts a frame one bit off (L2-D9). -/
theorem witness_OnlyGoodFramesRefresh :
    let s := offer 0x5#4 (receive 7 0xAA1103FF000047#56 base)
    let u := offer 0x5#4 (receive 7 0xAA1103FF000046#56 base)
    step s = .next (after (step s)) ∧ s.inp.rst = false ∧ s.seq = .idle ∧ s.inp.opValid = true ∧ s.inp.op = 0x5#4 ∧
      s.rxLenIn = 7 ∧ cks6 s.inp.rxFrame = byteOf s.inp.rxFrame 6 ∧ byteOf s.inp.rxFrame 0 = 0xAA#8 ∧
      step u = .next (after (step u)) ∧ u.inp.rst = false ∧ cks6 u.inp.rxFrame ≠ byteOf u.inp.rxFrame 6 := by
  refine ⟨rfl, rfl, rfl, rfl, rfl, by decide, by decide, by decide, rfl, rfl, by decide⟩

/-- L2-A14 (the refresh), L2-A5 (the expiry) and L2-A4 (neither). -/
theorem witness_ExpiryAtEveryEdge :
    let s := fun (n : Nat) =>
      { base with seen := true, lastSeen := 1000, inp := { base.inp with now := n, timeout := 100 } }
    let r := offer 0x5#4 (receive 7 0xE0AA55AA55AA4A#56 (s 1101))
    step r = .next (after (step r)) ∧ r.inp.rst = false ∧ r.refreshes = true ∧
      step (s 1101) = .next (after (step (s 1101))) ∧ (s 1101).refreshes = false ∧
      (s 1101).timeoutIn < (s 1101).delta (s 1101).nowIn ∧
      step (s 1100) = .next (after (step (s 1100))) ∧ ¬ (s 1100).timeoutIn < (s 1100).delta (s 1100).nowIn := by
  refine ⟨rfl, rfl, rfl, rfl, rfl, by decide, rfl, by decide⟩

/-- L2-A2. -/
theorem witness_NotAliveBeforeTheFirstGoodFrame : base.seen = false := by decide

/-- A good frame at 250 with `T_W = 8` and the timeout 5; then 255, and then 256, past the wrap and past the timeout. -/
def aging : State :=
  { offer 0x5#4 (receive 7 0xE0AA55AA55AA4A#56 base) with
    par := { build 3 with tW := 8 }
    inp := { base.inp with opValid := true, op := 0x5#4, rxLen := 7, rxFrame := 0xE0AA55AA55AA4A#56, now := 250, timeout := 5 }
    sched := [{ base.inp with now := 255, timeout := 5 }, { base.inp with now := 0, timeout := 5 }] }

/-- The time of each cycle of that run, unbounded. -/
def agingTime : Nat → Nat
  | 0 => 250
  | 1 => 255
  | _ => 256

theorem witness_AliveIsExactOnUnboundedTime :
    Runs (trace aging) 2 ∧ (trace aging 0).seen = false ∧
      (∀ k, k ≤ 2 → (trace aging k).nowIn = agingTime k % 2 ^ (trace aging 0).par.tW ∧ (trace aging k).timeoutIn = 5) ∧
      (∀ k, k < 2 → agingTime k ≤ agingTime (k + 1) ∧
        5 + (agingTime (k + 1) - agingTime k) < 2 ^ (trace aging 0).par.tW) ∧
      lastGood (trace aging) 1 = some 0 ∧ agingTime 1 - agingTime 0 = 5 ∧ agingTime 2 - agingTime 0 = 6 := by
  refine ⟨fun k hk => ?_, rfl, by decide, by decide, rfl, rfl, rfl⟩
  interval_cases k <;> rfl

/-- An idle edge, which writes none of the registers the statement names, and an edge of a sample in flight between the two
reads, which keeps SEQ. -/
theorem witness_EachRegisterHasItsWriters :
    (step base = .next (after (step base)) ∧ base.inp.rst = false ∧ base.accepted = none ∧ ¬ base.sampling ∧
      base.completesTick = false ∧ base.seq = .idle ∧ base.refreshes = false ∧ base.timedOut = false) ∧
      step (waiting 2) = .next (after (step (waiting 2))) ∧ (waiting 2).inp.rst = false ∧ (waiting 2).sampling ∧
        (waiting 2).sampleDone = false :=
  ⟨⟨rfl, rfl, rfl, by simp [State.sampling, base, State.reset], rfl, rfl, rfl, rfl⟩, rfl, rfl, Or.inl rfl, rfl⟩

/-- An edge that sends a frame, and one that does not. -/
theorem witness_TransmitStrobeMarksSentFrames :
    let s := { base with inp := tickPorts }
    step s = .next (after (step s)) ∧ s.inp.rst = false ∧ (after (step s)).txStb = true ∧
      step base = .next (after (step base)) ∧ base.inp.rst = false ∧ (after (step base)).txStb = false :=
  ⟨rfl, rfl, rfl, rfl, rfl, rfl⟩

theorem witness_BusyBlockReadsNoCommand : (waiting 1).seq ≠ .idle ∧ step (waiting 1) = .next (after (step (waiting 1))) :=
  ⟨by decide, rfl⟩

/-- An edge of a sample in flight between the two reads, and an idle edge that accepts a DECODE. -/
theorem witness_RawInputsAreReadOnlyAtTheirEdges :
    (waiting 2).accepted ≠ some .sampleButtons ∧ (waiting 2).accepted ≠ some .hasChanged ∧
      (waiting 2).accepted ≠ some .txTick ∧ (waiting 2).sampling ∧ (waiting 2).sampleDone = false ∧
      (∀ i : Fin 5, ((waiting 2).dbn.get i).atSecondRead = false) ∧ step (waiting 2) = .next (after (step (waiting 2))) ∧
      (offer 0x5#4 base).accepted = some .decode ∧ ¬ (offer 0x5#4 base).sampling ∧
      step (offer 0x5#4 base) = .next (after (step (offer 0x5#4 base))) := by
  refine ⟨by decide, by decide, by decide, Or.inl rfl, by decide, by decide, rfl, rfl, ?_, rfl⟩
  simp [State.sampling, offer, base, State.reset]

theorem witness_EveryStepKeepsTheInvariant : (waiting 3).Inv ∧ step (waiting 3) = .next (after (step (waiting 3))) :=
  ⟨waiting_inv (by decide) (by decide), rfl⟩

end Sys2Proof.Tests
end

/-!
PROOFS of the statements of spec/00_scope.md: every operation has a next state, step runs the one offered, and an illegal
build is refused under the name of the first test that fails.
-/

namespace Sys2Proof

/-! ### The tests of a build -/

/-- The preamble test fails on the Status preamble alone (R5). -/
theorem Params.preambleOk_eq_false_iff (p : Params) : p.preambleOk = false ↔ p.kaPreamble = 0xAA#8 := by
  simp [Params.preambleOk, Config.stPreamble]

/-- The debounce test fails on 0 cycles alone (R6). -/
theorem Params.debounceOk_eq_false_iff (p : Params) : p.debounceOk = false ↔ p.debounceCycles = 0 := by
  simp [Params.debounceOk]

/-- The width test fails when a width is outside its legal range (R8, R9, R10). -/
theorem Params.widthsOk_eq_false_iff (p : Params) :
    p.widthsOk = false ↔
      ¬ (2 ≤ p.tW ∧ p.tW ≤ 64 ∧ 1 ≤ p.kaW ∧ p.kaW ≤ 32 ∧ 3 ≤ p.lenW ∧ p.lenW ≤ 16) := by
  rw [← Bool.not_eq_true]
  simp only [Params.widthsOk, Bool.and_eq_true, decide_eq_true_eq, and_assoc]

namespace Machine

/-! ### The refusal of a build -/

/-- A refused build refuses at each edge (log 12). -/
theorem step_of_buildRefusal {s : State} {r : Refusal} (h : s.buildRefusal = some r) : step s = .refused r := by
  rw [step, h]

/-- The first test is the preamble's (R5). -/
theorem State.buildRefusal_of_preamble {s : State} (h : s.par.kaPreamble = 0xAA#8) :
    s.buildRefusal = some .kaPreambleIsStatusPreamble :=
  if_pos ((Params.preambleOk_eq_false_iff _).mpr h)

/-- The second test is that of DEBOUNCE_CYCLES (R6). -/
theorem State.buildRefusal_of_debounce {s : State} (hp : s.par.kaPreamble ≠ 0xAA#8) (h : s.par.debounceCycles = 0) :
    s.buildRefusal = some .debounceCyclesIsZero := by
  rw [State.buildRefusal, if_neg ((Params.preambleOk_eq_false_iff _).not.mpr hp),
    if_pos ((Params.debounceOk_eq_false_iff _).mpr h)]

/-- The third test is that of the widths (R8, R9, R10). -/
theorem State.buildRefusal_of_widths {s : State} (hp : s.par.kaPreamble ≠ 0xAA#8) (hd : s.par.debounceCycles ≠ 0)
    (h : ¬ (2 ≤ s.par.tW ∧ s.par.tW ≤ 64 ∧ 1 ≤ s.par.kaW ∧ s.par.kaW ≤ 32 ∧ 3 ≤ s.par.lenW ∧ s.par.lenW ≤ 16)) :
    s.buildRefusal = some .widthOutOfRange := by
  rw [State.buildRefusal, if_neg ((Params.preambleOk_eq_false_iff _).not.mpr hp),
    if_neg ((Params.debounceOk_eq_false_iff _).not.mpr hd), if_pos ((Params.widthsOk_eq_false_iff _).mpr h)]

/-- Settles O9: each clause names the first test that fails, and step passes that name on. -/
theorem illegalBuildsAreRefused : Obligations.IllegalBuildsAreRefused := by
  intro s
  refine ⟨fun hp => ?_, fun hp hd => ?_, fun hp hd hw => ?_⟩
  · exact step_of_buildRefusal (State.buildRefusal_of_preamble hp)
  · exact step_of_buildRefusal (State.buildRefusal_of_debounce hp hd)
  · exact step_of_buildRefusal (State.buildRefusal_of_widths hp hd hw)

/-! ### The accepted operation -/

/-- DECODE has a next state for each of the five results (R177, R179). -/
theorem execDecode_answers_next (s : State) : ∃ t, execDecode s = .next t := by
  unfold execDecode
  cases s.received with
  | lengthError => exact ⟨_, rfl⟩
  | checksumError => exact ⟨_, rfl⟩
  | status keys x y => exact ⟨_, rfl⟩
  | keepalive => exact ⟨_, rfl⟩
  | unknownFrameType => exact ⟨_, rfl⟩

/-- Every operation has a next state in every state: "There are no traps" (R244), and no code is undefined (R116). -/
theorem exec_answers_next (i : Instr) (s : State) : ∃ t, exec i s = .next t := by
  cases i with
  | nop => exact ⟨_, rfl⟩
  | sampleButtons => exact ⟨_, rfl⟩
  | hasChanged => exact ⟨_, rfl⟩
  | encStatus => exact ⟨_, rfl⟩
  | encKeepalive => exact ⟨_, rfl⟩
  | decode => exact execDecode_answers_next s
  | checksum => exact ⟨_, rfl⟩
  | txTick => exact ⟨_, execTxTick_eq s⟩
  | isAlive => exact ⟨_, rfl⟩
  | reserved9 => exact ⟨_, rfl⟩
  | reservedAB lo => exact ⟨_, rfl⟩
  | reservedCF lo => exact ⟨_, rfl⟩
  | frameStatus keys x y => exact ⟨_, rfl⟩
  | frameKeepalive payload => exact ⟨_, rfl⟩
  | frameUnknown preamble payload => exact ⟨_, rfl⟩

/-- The edge that accepts the offered operation (R102): exec's answer, and then what every edge ends with. -/
theorem step_of_accepted {s : State} (hl : s.par.legal = true) (hr : s.inp.rst = false) (hq : s.seq = .idle)
    (hv : s.inp.opValid = true) : step s = afterOperation (exec s.offered s.returnStrobes) := by
  simp [step_of_legal hl, hr, hq, hv]

/-- Settles O6: the accepting edge runs exec, which always answers a next state. -/
theorem stepRunsTheOfferedOperation : Obligations.StepRunsTheOfferedOperation := by
  intro s hl hr hq hv
  obtain ⟨t, ht⟩ := exec_answers_next s.offered s.returnStrobes
  have hstep : step s = .next t.finishEdge := by rw [step_of_accepted hl hr hq hv, ht, afterOperation]
  exact ⟨t, ht, hstep⟩

end Machine

end Sys2Proof

/-!
PROOFS of the statements of spec/10_state.md: what an edge can write, in one inductive relation; from it which rule writes
which register, what a reset edge leaves, and the invariant.
-/

namespace Sys2Proof

/-! ### The offered operation -/

/-- A code on the command port is never a wire frame (R101). -/
theorem decodeCommand_not_frame (op : BitVec 4) :
    (∀ k x y, decodeCommand op ≠ .frameStatus k x y) ∧ (∀ p, decodeCommand op ≠ .frameKeepalive p) ∧
      ∀ b p, decodeCommand op ≠ .frameUnknown b p := by
  unfold decodeCommand
  split <;> simp

namespace Machine

/-- An operation is accepted on an idle block out of reset, and it is the offered one (R102). -/
theorem State.accepted_of_offer {s : State} (hr : s.inp.rst = false) (hq : s.seq = .idle) (hv : s.inp.opValid = true) :
    s.accepted = some s.offered := if_pos ⟨hr, hq, hv⟩

/-- A busy block accepts nothing (R102). -/
theorem State.accepted_of_busy {s : State} (hq : s.seq ≠ .idle) : s.accepted = none := if_neg fun h => hq h.2.1

/-- Without a valid command nothing is accepted (R102). -/
theorem State.accepted_of_no_offer {s : State} (hv : s.inp.opValid = false) : s.accepted = none := by
  simp [State.accepted, hv]

/-- Where a tick completes (R200, R201): at its accepting edge with no button pressed, or where its sample is done. -/
theorem State.completesTick_iff {s : State} (hr : s.inp.rst = false) :
    s.completesTick = true ↔
      (s.accepted = some .txTick ∧ s.inp.btnRaw = 0b11111#5) ∨ (s.seq = .ttWait ∧ s.sampleDone = true) := by
  simp [State.completesTick, hr]

/-- A tick completes at the accepting edge of a TX_TICK with no button pressed (R200). -/
theorem State.completesTick_of_released {s : State} (hr : s.inp.rst = false) (ha : s.accepted = some .txTick)
    (hb : s.inp.btnRaw = 0b11111#5) : s.completesTick = true :=
  (State.completesTick_iff hr).mpr (.inl ⟨ha, hb⟩)

/-- A tick in flight completes at the edge where its sample is done (R142). -/
theorem State.completesTick_of_done {s : State} (hr : s.inp.rst = false) (hq : s.seq = .ttWait)
    (hd : s.sampleDone = true) : s.completesTick = true :=
  (State.completesTick_iff hr).mpr (.inr ⟨hq, hd⟩)

/-- The end of an edge (R20): the expiry writes EXPIRED, and only the ports and the schedule move besides. -/
theorem State.finishEdge_eq (s : State) :
    s.finishEdge =
      { s with expired := s.timedOut || s.expired, inp := s.sched.head?.getD s.inp, sched := s.sched.tail } := by
  rw [State.finishEdge, State.expire_eq]
  rfl

/-! ### What an edge writes -/

/-- `EdgeWrites s u`: from `s`, an edge that is no reset edge writes the registers as in `u`, before the expiry and the next
cycle's ports. One constructor for each edge the rules tell apart. -/
inductive EdgeWrites (s : State) : State → Prop where
  /-- Nothing is accepted (R102). -/
  | idle (hq : s.seq = .idle) (ha : s.accepted = none) : EdgeWrites s s.returnStrobes
  /-- NOP (R103). -/
  | nop (hq : s.seq = .idle) (ha : s.accepted = some .nop) : EdgeWrites s s.returnStrobes
  /-- A reserved code (R103). -/
  | reserved (hq : s.seq = .idle) (i : Instr) (ha : s.accepted = some i) (hi : i.isReserved = true) :
      EdgeWrites s s.returnStrobes.raiseIllegal
  /-- SAMPLE_BUTTONS with no button pressed (R141). -/
  | sampleReleased (hq : s.seq = .idle) (ha : s.accepted = some .sampleButtons) (hb : s.inp.btnRaw = 0b11111#5) :
      EdgeWrites s ((s.returnStrobes.setDbn s.firstReads).setSampled 0#5)
  /-- SAMPLE_BUTTONS with a button pressed (R141). -/
  | samplePressed (hq : s.seq = .idle) (ha : s.accepted = some .sampleButtons) (hb : s.inp.btnRaw ≠ 0b11111#5) :
      EdgeWrites s ((s.returnStrobes.setDbn s.firstReads).setSeq .sbWait)
  /-- HAS_CHANGED that reports a change (R146, R147). -/
  | changeStored (hq : s.seq = .idle) (ha : s.accepted = some .hasChanged)
      (ht : s.hcTest s.sampledKeys s.inp.axisX s.inp.axisY = true) :
      EdgeWrites s ((s.returnStrobes.storeCurrent s.sampledKeys s.inp.axisX s.inp.axisY).setChanged true)
  /-- HAS_CHANGED that reports none (R146, R147). -/
  | noChange (hq : s.seq = .idle) (ha : s.accepted = some .hasChanged)
      (ht : s.hcTest s.sampledKeys s.inp.axisX s.inp.axisY = false) :
      EdgeWrites s (s.returnStrobes.setChanged false)
  /-- ENC_STATUS (R174). -/
  | encStatus (hq : s.seq = .idle) (ha : s.accepted = some .encStatus) :
      EdgeWrites s (s.returnStrobes.sendFrame (encS s.inp.argKeys s.inp.argX s.inp.argY))
  /-- ENC_KEEPALIVE (R176). -/
  | encKeepalive (hq : s.seq = .idle) (ha : s.accepted = some .encKeepalive) :
      EdgeWrites s (s.returnStrobes.sendFrame (encK s.par.kaPreamble))
  /-- DECODE of a frame that is not good (R179, R227). -/
  | decodeRejected (hq : s.seq = .idle) (ha : s.accepted = some .decode) (hg : s.received.good = false) :
      EdgeWrites s (s.returnStrobes.setDecCode (DecCode.ofClass s.received))
  /-- DECODE of a Status frame (R179, R222). -/
  | decodeStatus (hq : s.seq = .idle) (ha : s.accepted = some .decode) (k : BitVec 8) (x y : BitVec 16)
      (hc : s.received = .status k x y) :
      EdgeWrites s ((s.returnStrobes.setDecCode .status).setDecFields k x y).refresh
  /-- DECODE of a Keepalive (R179, R222). -/
  | decodeKeepalive (hq : s.seq = .idle) (ha : s.accepted = some .decode) (hc : s.received = .keepalive) :
      EdgeWrites s (s.returnStrobes.setDecCode .keepalive).refresh
  /-- CHECKSUM (R172). -/
  | checksum (hq : s.seq = .idle) (ha : s.accepted = some .checksum) :
      EdgeWrites s (s.returnStrobes.setCks (xorfold (firstBytes s.inp.rxFrame s.sliceLen)))
  /-- TX_TICK with no button pressed: a whole tick at once (R200, R201). -/
  | tickReleased (hq : s.seq = .idle) (ha : s.accepted = some .txTick) (hb : s.inp.btnRaw = 0b11111#5) :
      EdgeWrites s (((s.returnStrobes.setDbn s.firstReads).setSampled 0#5).ttComplete 0#5)
  /-- TX_TICK with a button pressed (R200). -/
  | tickPressed (hq : s.seq = .idle) (ha : s.accepted = some .txTick) (hb : s.inp.btnRaw ≠ 0b11111#5) :
      EdgeWrites s ((s.returnStrobes.setDbn s.firstReads).setSeq .ttWait)
  /-- IS_ALIVE (R224). -/
  | isAlive (hq : s.seq = .idle) (ha : s.accepted = some .isAlive) :
      EdgeWrites s (s.returnStrobes.setAliveR s.comparator)
  /-- A debounce edge after which a button still waits (R142). -/
  | waitOn (hs : s.sampling) (ha : s.accepted = none) (hd : s.sampleDone = false) :
      EdgeWrites s (s.returnStrobes.setDbn s.tickButtons)
  /-- The debounce edge that ends a SAMPLE_BUTTONS (R142). -/
  | sampleEnds (hq : s.seq = .sbWait) (ha : s.accepted = none) (hd : s.sampleDone = true) :
      EdgeWrites s (((s.returnStrobes.setDbn s.tickButtons).setSampled s.secondReadKeys).setSeq .idle)
  /-- The debounce edge that ends the sample of a TX_TICK (R142, R201). -/
  | tickEnds (hq : s.seq = .ttWait) (ha : s.accepted = none) (hd : s.sampleDone = true) :
      EdgeWrites s (((s.returnStrobes.setDbn s.tickButtons).setSampled s.secondReadKeys).ttComplete s.secondReadKeys)
  /-- The keepalive slot (R203). -/
  | slot (hq : s.seq = .ttKa) (ha : s.accepted = none) :
      EdgeWrites s ((s.returnStrobes.sendFrame (encK s.par.kaPreamble)).setSeq .idle)

/-- An accepted operation's writes are one of these. -/
theorem EdgeWrites.of_offered {s : State} (hq : s.seq = .idle) (ha : s.accepted = some s.offered) :
    ∃ u, exec s.offered s.returnStrobes = .next u ∧ EdgeWrites s u := by
  obtain ⟨hframeS, hframeK, hframeU⟩ := decodeCommand_not_frame s.inp.op
  cases hi : s.offered with rw [hi] at ha
  | nop => exact ⟨_, rfl, .nop hq ha⟩
  | sampleButtons =>
    by_cases hb : s.inp.btnRaw = 0b11111#5
    · refine ⟨_, ?_, .sampleReleased hq ha hb⟩
      simp [exec, execSampleButtons, State.dbnStart_eq, hb]
    · refine ⟨_, ?_, .samplePressed hq ha hb⟩
      simp [exec, execSampleButtons, State.dbnStart_eq, hb]
  | hasChanged =>
    cases ht : s.hcTest s.sampledKeys s.inp.axisX s.inp.axisY with
    | true =>
      refine ⟨_, ?_, .changeStored hq ha ht⟩
      simp [exec, execHasChanged, State.hc, ht]
    | false =>
      refine ⟨_, ?_, .noChange hq ha ht⟩
      simp [exec, execHasChanged, State.hc, ht]
  | encStatus => exact ⟨_, rfl, .encStatus hq ha⟩
  | encKeepalive => exact ⟨_, rfl, .encKeepalive hq ha⟩
  | decode =>
    cases hc : s.received with
    | status k x y =>
      refine ⟨_, ?_, .decodeStatus hq ha k x y hc⟩
      simp [exec, execDecode, hc, DecCode.ofClass]
    | keepalive =>
      refine ⟨_, ?_, .decodeKeepalive hq ha hc⟩
      simp [exec, execDecode, hc, DecCode.ofClass]
    | lengthError | checksumError | unknownFrameType =>
      refine ⟨_, ?_, .decodeRejected hq ha (by simp [hc, FrameClass.good])⟩
      simp [exec, execDecode, hc]
  | checksum => exact ⟨_, rfl, .checksum hq ha⟩
  | txTick =>
    by_cases hb : s.inp.btnRaw = 0b11111#5
    · refine ⟨_, ?_, .tickReleased hq ha hb⟩
      simp [exec, execTxTick_eq, hb]
    · refine ⟨_, ?_, .tickPressed hq ha hb⟩
      simp [exec, execTxTick_eq, hb]
  | isAlive => exact ⟨_, rfl, .isAlive hq ha⟩
  | reserved9 => exact ⟨_, rfl, .reserved hq _ ha rfl⟩
  | reservedAB lo => exact ⟨_, rfl, .reserved hq _ ha rfl⟩
  | reservedCF lo => exact ⟨_, rfl, .reserved hq _ ha rfl⟩
  | frameStatus k x y => exact absurd hi (hframeS k x y)
  | frameKeepalive p => exact absurd hi (hframeK p)
  | frameUnknown b p => exact absurd hi (hframeU b p)

/-- A sequencer step's writes are one of these (R102, R142, R203). -/
theorem EdgeWrites.of_busy {s : State} (hq : s.seq ≠ .idle) : EdgeWrites s s.returnStrobes.sequencerStep := by
  have ha := State.accepted_of_busy hq
  cases hp : s.seq with
  | idle => exact absurd hp hq
  | sbWait =>
    rw [State.sequencerStep, State.returnStrobes_seq, hp]
    cases hd : s.sampleDone with
    | false => simpa [State.debounceStep_eq, hd] using EdgeWrites.waitOn (.inl hp) ha hd
    | true => simpa [State.debounceStep_eq, hd, hp] using EdgeWrites.sampleEnds hp ha hd
  | ttWait =>
    rw [State.sequencerStep, State.returnStrobes_seq, hp]
    cases hd : s.sampleDone with
    | false => simpa [State.debounceStep_eq, hd] using EdgeWrites.waitOn (.inr hp) ha hd
    | true => simpa [State.debounceStep_eq, hd, hp] using EdgeWrites.tickEnds hp ha hd
  | ttKa =>
    rw [State.sequencerStep, State.returnStrobes_seq, hp]
    exact .slot hp ha

/-- Every edge but a reset edge makes the writes of one constructor, and then ends as every edge does (R20). -/
theorem EdgeWrites.of_step {s t : State} (h : step s = .next t) (hr : s.inp.rst = false) :
    ∃ u, EdgeWrites s u ∧ t = u.finishEdge := by
  obtain ⟨-, ⟨hr', -⟩ | ⟨-, hq, ht⟩ | ⟨-, hq, hv, u, hu, ht⟩ | ⟨-, hq, hv, ht⟩⟩ := step_cases h
  · simp [hr] at hr'
  · exact ⟨_, .of_busy hq, ht⟩
  · obtain ⟨u', hu', hw⟩ := EdgeWrites.of_offered hq (State.accepted_of_offer hr hq hv)
    obtain rfl : u' = u := by simpa [hu'] using hu
    exact ⟨u', hw, ht⟩
  · exact ⟨_, .idle hq (State.accepted_of_no_offer hv), ht⟩

/-! ### The build, the ports and the schedule -/

/-- No write touches the build, the ports or the schedule (log 1, log 4). -/
theorem EdgeWrites.ports_unchanged {s u : State} (h : EdgeWrites s u) :
    u.par = s.par ∧ u.inp = s.inp ∧ u.sched = s.sched := by
  cases h <;> simp

/-- Every step keeps the build and moves the ports on (log 1, log 4). -/
theorem ports_of_step {s t : State} (h : step s = .next t) :
    t.par = s.par ∧ t.inp = s.sched.head?.getD s.inp ∧ t.sched = s.sched.tail := by
  cases hr : s.inp.rst with
  | true =>
    obtain ⟨-, ⟨-, rfl⟩ | ⟨hr', -⟩ | ⟨hr', -⟩ | ⟨hr', -⟩⟩ := step_cases h
    · simp
    all_goals simp [hr] at hr'
  | false =>
    obtain ⟨u, hw, rfl⟩ := EdgeWrites.of_step h hr
    obtain ⟨hp, hi, hs⟩ := hw.ports_unchanged
    simp [hp, hi, hs]

/-- Settles O10, by the two shapes of the schedule. -/
theorem buildStaysAndPortsAdvance : Obligations.BuildStaysAndPortsAdvance := by
  intro s t h
  obtain ⟨hp, hi, hs⟩ := ports_of_step h
  refine ⟨hp, fun p ps hsched => ?_, fun hsched => ?_⟩
  · simp [hi, hs, hsched]
  · simp [hi, hs, hsched]

/-! ### Which edges write a register -/

section
variable {s u : State}

/-- The debounce state and SAMPLED_KEYS belong to the samples (R47, R48). -/
theorem EdgeWrites.dbn_unchanged (h : EdgeWrites s u) (hsb : s.accepted ≠ some .sampleButtons)
    (htt : s.accepted ≠ some .txTick) (hs : ¬ s.sampling) : u.dbn = s.dbn ∧ u.sampledKeys = s.sampledKeys := by
  cases h with
  | sampleReleased _ ha => exact absurd ha hsb
  | samplePressed _ ha => exact absurd ha hsb
  | tickReleased _ ha => exact absurd ha htt
  | tickPressed _ ha => exact absurd ha htt
  | waitOn hw => exact absurd hw hs
  | sampleEnds hq => exact absurd (.inl hq) hs
  | tickEnds hq => exact absurd (.inr hq) hs
  | _ => simp

/-- The stored sample and CHANGED belong to HAS_CHANGED and the completion of a tick (R49, R50, R150). -/
theorem EdgeWrites.current_unchanged (h : EdgeWrites s u) (hr : s.inp.rst = false)
    (hhc : s.accepted ≠ some .hasChanged) (ht : s.completesTick = false) :
    u.curValid = s.curValid ∧ u.curKeys = s.curKeys ∧ u.curX = s.curX ∧ u.curY = s.curY ∧ u.changed = s.changed := by
  cases h with
  | changeStored _ ha => exact absurd ha hhc
  | noChange _ ha => exact absurd ha hhc
  | tickReleased _ ha hb => simp [State.completesTick_of_released hr ha hb] at ht
  | tickEnds hq _ hd => simp [State.completesTick_of_done hr hq hd] at ht
  | _ => simp

/-- KA_CNT belongs to the completion of a tick (R51, R205). -/
theorem EdgeWrites.kaCnt_unchanged (h : EdgeWrites s u) (hr : s.inp.rst = false) (ht : s.completesTick = false) :
    u.kaCnt = s.kaCnt := by
  cases h with
  | tickReleased _ ha hb => simp [State.completesTick_of_released hr ha hb] at ht
  | tickEnds hq _ hd => simp [State.completesTick_of_done hr hq hd] at ht
  | _ => simp

/-- CKS_RESULT belongs to CHECKSUM (R53). -/
theorem EdgeWrites.cksResult_unchanged (h : EdgeWrites s u) (hck : s.accepted ≠ some .checksum) :
    u.cksResult = s.cksResult := by
  cases h with
  | checksum _ ha => exact absurd ha hck
  | _ => simp

/-- The decoder's results belong to DECODE (R54). -/
theorem EdgeWrites.decoded_unchanged (h : EdgeWrites s u) (hdec : s.accepted ≠ some .decode) :
    u.decCode = s.decCode ∧ u.decKeys = s.decKeys ∧ u.decX = s.decX ∧ u.decY = s.decY := by
  cases h with
  | decodeRejected _ ha => exact absurd ha hdec
  | decodeStatus _ ha => exact absurd ha hdec
  | decodeKeepalive _ ha => exact absurd ha hdec
  | _ => simp

/-- ALIVE_R belongs to IS_ALIVE (R55, R224). -/
theorem EdgeWrites.aliveR_unchanged (h : EdgeWrites s u) (hal : s.accepted ≠ some .isAlive) : u.aliveR = s.aliveR := by
  cases h with
  | isAlive _ ha => exact absurd ha hal
  | _ => simp

/-- Only SAMPLE_BUTTONS and TX_TICK take the sequencer out of IDLE (R46). -/
theorem EdgeWrites.seq_idle (h : EdgeWrites s u) (hq : s.seq = .idle) (hsb : s.accepted ≠ some .sampleButtons)
    (htt : s.accepted ≠ some .txTick) : u.seq = .idle := by
  cases h with
  | samplePressed _ ha => exact absurd ha hsb
  | tickReleased _ ha => exact absurd ha htt
  | tickPressed _ ha => exact absurd ha htt
  | tickEnds hq' => simp [hq] at hq'
  | sampleEnds => rfl
  | slot => rfl
  | _ => simpa using hq

/-- A sample that waits on keeps the sequencer where it is (R46, R142). -/
theorem EdgeWrites.seq_of_waiting (h : EdgeWrites s u) (hs : s.sampling) (hd : s.sampleDone = false) :
    u.seq = s.seq := by
  cases h with
  | waitOn => rfl
  | sampleEnds _ _ hd' => simp [hd] at hd'
  | tickEnds _ _ hd' => simp [hd] at hd'
  | slot hq => simp [State.sampling, hq] at hs
  | _ => simp [State.sampling, ‹s.seq = .idle›] at hs

/-- ILLEGAL_STB is raised by a reserved code alone (R56, R103). -/
theorem EdgeWrites.illegalStb_false (h : EdgeWrites s u) (hi : ∀ i, s.accepted = some i → i.isReserved = false) :
    u.illegalStb = false := by
  cases h with
  | reserved _ i ha hres => simp [hi i ha] at hres
  | _ => simp

/-- SEEN, LAST_SEEN and EXPIRED belong to the refresh, before the expiry (R55, R222). -/
theorem EdgeWrites.liveness_unchanged (h : EdgeWrites s u) (hf : s.refreshes = false) :
    u.seen = s.seen ∧ u.lastSeen = s.lastSeen ∧ u.expired = s.expired := by
  cases h with
  | decodeStatus _ ha k x y hc => simp [State.refreshes, ha, hc, FrameClass.good] at hf
  | decodeKeepalive _ ha hc => simp [State.refreshes, ha, hc, FrameClass.good] at hf
  | _ => simp

/-- Without a refresh the expiry's condition is the one before the edge (R223). -/
theorem EdgeWrites.timedOut_eq (h : EdgeWrites s u) (hf : s.refreshes = false) : u.timedOut = s.timedOut := by
  obtain ⟨hp, hi, -⟩ := h.ports_unchanged
  obtain ⟨hs, hl, he⟩ := h.liveness_unchanged hf
  exact State.timedOut_congr hi hp hs hl he

/-! ### The transmit strobe -/

/-- What completes a tick sends a frame exactly when it reports a change or a Keepalive is due (R201). -/
theorem State.ttComplete_txStb_iff (v : State) (k : BitVec 5) (hv : v.txStb = false) :
    (v.ttComplete k).txStb = true ↔ (v.ttComplete k).changed = true ∨ max v.kaIntervalIn 1 ≤ v.kaCnt + 1 := by
  simp [hv, State.kaDue, State.kaPeriod]

/-- A completed tick that sends nothing keeps FRAME_OUT (R201). -/
theorem State.ttComplete_frameOut_of_quiet (v : State) (k : BitVec 5) (h : (v.ttComplete k).txStb = false) :
    (v.ttComplete k).frameOut = v.frameOut := by
  rw [State.ttComplete_txStb, Bool.or_eq_false_iff, Bool.or_eq_false_iff] at h
  obtain ⟨⟨hchange, hdue⟩, -⟩ := h
  rw [State.ttComplete_frameOut, hchange, hdue]
  rfl

/-- TX_STB is 1 after exactly the edges that send a frame (R52, R56). -/
theorem EdgeWrites.txStb_iff (h : EdgeWrites s u) (hr : s.inp.rst = false) :
    u.txStb = true ↔
      s.accepted = some .encStatus ∨ s.accepted = some .encKeepalive ∨ s.seq = .ttKa ∨
        (s.completesTick = true ∧ (u.changed = true ∨ max s.kaIntervalIn 1 ≤ s.kaCnt + 1)) := by
  rw [State.completesTick_iff hr]
  cases h with
  | encStatus _ ha => simp [ha]
  | encKeepalive _ ha => simp [ha]
  | slot hq => simp [hq]
  | tickReleased hq ha hb =>
    rw [State.ttComplete_txStb_iff _ _ rfl]
    simp [hq, ha, hb, State.kaIntervalIn]
  | tickEnds hq ha hd =>
    rw [State.ttComplete_txStb_iff _ _ rfl]
    simp [hq, ha, hd, State.kaIntervalIn]
  | tickPressed hq ha hb => simp [hq, ha, hb]
  | waitOn hs ha hd => obtain hq | hq := hs <;> simp [hq, ha, hd]
  | sampleEnds hq ha => simp [hq, ha]
  | reserved hq i ha hi =>
    have hne (j : Instr) (hj : j.isReserved = false) : i ≠ j := by
      rintro rfl
      simp [hi] at hj
    simp [hq, ha, hne .encStatus rfl, hne .encKeepalive rfl, hne .txTick rfl]
  | _ => simp [‹s.seq = .idle›, ‹s.accepted = _›]

/-- FRAME_OUT keeps its value at an edge that sends no frame (R52). -/
theorem EdgeWrites.frameOut_unchanged (h : EdgeWrites s u) (ht : u.txStb = false) : u.frameOut = s.frameOut := by
  cases h with
  | encStatus => cases ht
  | encKeepalive => cases ht
  | slot => cases ht
  | tickReleased => exact State.ttComplete_frameOut_of_quiet _ _ ht
  | tickEnds => exact State.ttComplete_frameOut_of_quiet _ _ ht
  | _ => simp

end

/-- Settles O51: the strobe's writers, and FRAME_OUT's. -/
theorem transmitStrobeMarksSentFrames : Obligations.TransmitStrobeMarksSentFrames := by
  intro s t h hr
  obtain ⟨u, hw, rfl⟩ := EdgeWrites.of_step h hr
  rw [State.finishEdge_eq]
  exact ⟨hw.txStb_iff hr, hw.frameOut_unchanged⟩

/-- Settles O50, register by register; the clause of FRAME_OUT and TX_STB is that of the sent frames. -/
theorem eachRegisterHasItsWriters : Obligations.EachRegisterHasItsWriters := by
  intro s t h hr
  obtain ⟨u, hw, rfl⟩ := EdgeWrites.of_step h hr
  rw [State.finishEdge_eq]
  refine ⟨hw.dbn_unchanged, hw.current_unchanged hr, hw.kaCnt_unchanged hr, hw.cksResult_unchanged,
    hw.decoded_unchanged, hw.aliveR_unchanged, hw.seq_idle, hw.seq_of_waiting, fun hes hek hq ht => ?_,
    hw.illegalStb_false, fun hf => ?_, fun hf ho => ?_⟩
  · have hno : u.txStb = false := by
      rw [← Bool.not_eq_true, hw.txStb_iff hr]
      simp [hes, hek, hq, ht]
    exact ⟨hw.frameOut_unchanged hno, hno⟩
  · obtain ⟨hseen, hlast, -⟩ := hw.liveness_unchanged hf
    exact ⟨hseen, hlast⟩
  · obtain ⟨-, -, he⟩ := hw.liveness_unchanged hf
    show (u.timedOut || u.expired) = s.expired
    rw [hw.timedOut_eq hf, ho, he, Bool.false_or]

/-! ### Reset -/

/-- A reset edge of a legal build (R270): the registers of the reset state, and the next cycle's ports. -/
theorem step_of_reset {s : State} (hl : s.par.legal = true) (hr : s.inp.rst = true) :
    step s = .next s.resetRegisters.advancePorts := by
  simp [step_of_legal hl, hr]

/-- Settles O12, row by row of the table. -/
theorem resetStateHoldsTheTable : Obligations.ResetStateHoldsTheTable :=
  ⟨rfl, PerButton.get_all _, rfl, rfl, rfl, rfl, rfl, rfl, rfl, rfl, rfl, rfl, rfl, rfl, rfl, rfl, rfl, rfl, rfl, rfl, rfl⟩

/-- Settles O11: a reset edge leaves the registers of State.reset, which hold the table. -/
theorem resetEdgeSetsEveryRegister : Obligations.ResetEdgeSetsEveryRegister := by
  intro s hl hr
  exact ⟨_, step_of_reset hl hr, resetStateHoldsTheTable⟩

/-! ### Outputs -/

/-- Settles O49: each output is the register named, and the ports reach `alive_o` alone. -/
theorem outputsShowTheRegisters : Obligations.OutputsShowTheRegisters := by
  intro s p
  have hready : s.ready = decide (s.seq = .idle) := rfl
  exact ⟨by simp only [State.outputs, hready, State.comparator], rfl⟩

/-! ### The buttons of a sample -/

section
variable {s u : State}

/-- Every raw level is 1 exactly when no button is pressed (R35). -/
theorem State.rawLevel_all_iff (s : State) : (∀ i, s.rawLevel i = true) ↔ s.inp.btnRaw = 0b11111#5 := by
  constructor
  · intro h
    apply BitVec.eq_of_getLsbD_eq
    intro i hi
    rw [show s.inp.btnRaw.getLsbD i = true from h ⟨i, hi⟩]
    interval_cases i <;> rfl
  · intro h i
    rw [State.rawLevel, h]
    revert i
    decide

/-- With no button pressed the first reads leave every machine at rest (R141). -/
theorem State.firstReads_atRest (hb : s.inp.btnRaw = 0b11111#5) : (s.setDbn s.firstReads).dbnAtRest := by
  intro i
  have hraw := (State.rawLevel_all_iff s).mpr hb i
  simp [Button.firstRead, hraw]

/-- With a button pressed the first reads start a sample (R141): the pressed buttons wait from DEBOUNCE_CYCLES. -/
theorem State.firstReads_inFlight (hl : s.par.legal = true) (hb : s.inp.btnRaw ≠ 0b11111#5) :
    (s.setDbn s.firstReads).dbnInFlight := by
  obtain ⟨-, hcycles, -⟩ := (Params.legal_iff _).mp hl
  obtain ⟨j, hj⟩ : ∃ j, s.rawLevel j = false := by
    by_contra hno
    exact hb ((State.rawLevel_all_iff s).mp fun i => by simpa using not_exists.mp hno i)
  refine ⟨s.par.debounceCycles, hcycles, le_rfl, ⟨j, ?_⟩, fun i => ?_⟩
  · simp [Button.firstRead, hj]
  · cases hraw : s.rawLevel i <;> simp [Button.firstRead, hraw]

/-- At the edge that ends a sample every waiting button is read again, and all rest (R142, R144). -/
theorem State.tickButtons_atRest (h : s.dbnInFlight) (hd : s.sampleDone = true) :
    (s.setDbn s.tickButtons).dbnAtRest := by
  obtain ⟨c, hc1, -, -, hall⟩ := h
  intro i
  obtain ⟨hwait, hidle⟩ := hall i
  rw [State.setDbn_dbn, State.tickButtons_get]
  cases hp : (s.dbn.get i).phase with
  | idle =>
    rw [Button.tick_of_idle _ _ hp]
    exact ⟨hp, (hidle hp).1⟩
  | wait =>
    have hdone := (State.sampleDone_iff s).mp hd i
    have hcount : (s.dbn.get i).count = 1 := by
      have := (hwait hp).1
      by_contra hne
      exact hdone ⟨hp, by omega⟩
    rw [Button.tick_of_secondRead _ _ hp hcount]
    exact ⟨rfl, rfl⟩

/-- At an edge where a sample waits on, all its waiting buttons count down together (R142). -/
theorem State.tickButtons_inFlight (h : s.dbnInFlight) (hd : s.sampleDone = false) :
    (s.setDbn s.tickButtons).dbnInFlight := by
  obtain ⟨c, hc1, hcn, -, hall⟩ := h
  obtain ⟨j, hj, hjc⟩ : ∃ j, (s.dbn.get j).phase = .wait ∧ 1 < (s.dbn.get j).count := by
    by_contra hno
    simp [(State.sampleDone_iff s).mpr (not_exists.mp hno)] at hd
  have hc : 1 < c := (hall j).1 hj |>.1 ▸ hjc
  have hfit : c < 2 ^ s.par.dbnW := hcn.trans_lt s.par.debounceCycles_lt
  have hticked (i : Fin 5) (hp : (s.dbn.get i).phase = .wait) :
      (s.dbn.get i).tick s.par.dbnW (s.rawLevel i) = ⟨false, .wait, c - 1⟩ := by
    obtain ⟨hcount, hlevel⟩ := (hall i).1 hp
    rw [Button.tick_of_waiting _ hp (hcount ▸ hc) (hcount ▸ hfit), hcount, ← hlevel, ← hp]
  refine ⟨c - 1, by omega, show c - 1 ≤ s.par.debounceCycles by omega, ⟨j, ?_⟩, fun i => ?_⟩
  · rw [State.setDbn_dbn, State.tickButtons_get, hticked j hj]
  · rw [State.setDbn_dbn, State.tickButtons_get]
    cases hp : (s.dbn.get i).phase with
    | idle =>
      rw [Button.tick_of_idle _ _ hp]
      exact ⟨fun hw => by simp [hp] at hw, (hall i).2⟩
    | wait =>
      rw [hticked i hp]
      exact ⟨fun _ => ⟨rfl, rfl⟩, fun hi => by cases hi⟩

/-- Rest is a matter of the debounce state alone. -/
theorem State.dbnAtRest_congr {v w : State} (h : w.dbn = v.dbn) (hv : v.dbnAtRest) : w.dbnAtRest := by
  rwa [State.dbnAtRest, h]

/-- The completion of a tick leaves the machines alone. -/
theorem State.ttComplete_atRest {v : State} (k : BitVec 5) (h : v.dbnAtRest) : (v.ttComplete k).dbnAtRest :=
  State.dbnAtRest_congr (State.ttComplete_dbn v k) h

/-- A completed tick is no sample in flight (R201). -/
theorem State.ttComplete_not_sampling (v : State) (k : BitVec 5) : ¬ (v.ttComplete k).sampling := by
  rw [State.sampling, State.ttComplete_seq]
  split <;> simp

/-! ### What a completed tick leaves -/

/-- With nothing stored every sample is a change (R146). -/
theorem State.hcTest_of_unstored {v : State} (h : v.curValid = false) (k : BitVec 5) (x y : BitVec 10) :
    v.hcTest k x y = true := by
  simp [State.hcTest, h]

/-- A completed tick has a stored sample (R146, R201). -/
theorem State.ttComplete_stored (v : State) (k : BitVec 5) : (v.ttComplete k).curValid = true := by
  cases hv : v.curValid with
  | true => simp [hv]
  | false => simp [State.hcTest_of_unstored hv]

/-- KA_CNT never overflows (R202): below a period it is below the interval, which fits. -/
theorem State.ttComplete_kaCnt_lt (v : State) (k : BitVec 5) : (v.ttComplete k).kaCnt < 2 ^ v.par.kaW := by
  rw [State.ttComplete_kaCnt]
  split
  · exact Nat.two_pow_pos _
  next hdue =>
    have hbelow : v.kaCnt + 1 < max v.kaIntervalIn 1 := by simpa [State.kaDue, State.kaPeriod] using hdue
    have := v.kaIntervalIn_lt
    omega

/-- An encoded frame passes the decoder's checksum test (R107, R171). -/
theorem sealFrame_passes (b0 b1 b2 b3 b4 b5 : Byte) :
    cks6 (sealFrame b0 b1 b2 b3 b4 b5) = byteOf (sealFrame b0 b1 b2 b3 b4 b5) 6 := by
  rw [cks6_sealFrame]

/-- A completed tick keeps FRAME_OUT sealed (R107, R201). -/
theorem State.ttComplete_sealed {v : State} (k : BitVec 5) (h : cks6 v.frameOut = byteOf v.frameOut 6) :
    cks6 (v.ttComplete k).frameOut = byteOf (v.ttComplete k).frameOut 6 := by
  rw [State.ttComplete_frameOut]
  split
  · exact sealFrame_passes ..
  · split
    · exact sealFrame_passes ..
    · exact h

/-- A completed tick that owes a Keepalive has put its sample's Status frame on offer and restarted KA_CNT (R201, R202). -/
theorem State.ttComplete_slot {v : State} {k : BitVec 5} (h : (v.ttComplete k).seq = .ttKa) :
    (v.ttComplete k).txStb = true ∧
      (v.ttComplete k).frameOut = encS (v.ttComplete k).curKeys (v.ttComplete k).curX (v.ttComplete k).curY ∧
      (v.ttComplete k).kaCnt = 0 ∧ (v.ttComplete k).curValid = true ∧ (v.ttComplete k).changed = true := by
  obtain ⟨hchange, hdue⟩ : v.hcTest k v.inp.axisX v.inp.axisY = true ∧ v.kaDue = true := by
    simpa using h
  simp [hchange, hdue]

/-! ### The invariant, part by part -/

/-- An idle block has no sample in flight (R46). -/
theorem State.not_sampling_of_idle (hu : u.seq = .idle) : ¬ u.sampling := by
  simp [State.sampling, hu]

/-- The machines rest outside a sample, and share one count in it (R47, R144). -/
theorem EdgeWrites.inv_debounce (h : EdgeWrites s u) (hinv : s.Inv) :
    (¬ u.sampling → u.dbnAtRest) ∧ (u.sampling → u.dbnInFlight) := by
  cases h with
  | sampleReleased hq _ hb =>
    exact ⟨fun _ => State.firstReads_atRest hb, fun hs => absurd hs (State.not_sampling_of_idle hq)⟩
  | samplePressed _ _ hb =>
    exact ⟨fun hs => absurd (.inl rfl) hs, fun _ => State.firstReads_inFlight hinv.legal hb⟩
  | tickReleased _ _ hb =>
    exact ⟨fun _ => State.ttComplete_atRest _ (State.firstReads_atRest hb),
      fun hs => absurd hs (State.ttComplete_not_sampling _ _)⟩
  | tickPressed _ _ hb =>
    exact ⟨fun hs => absurd (.inr rfl) hs, fun _ => State.firstReads_inFlight hinv.legal hb⟩
  | waitOn hs _ hd =>
    exact ⟨fun hn => absurd hs hn, fun _ => State.tickButtons_inFlight (hinv.inFlight hs) hd⟩
  | sampleEnds hq _ hd =>
    exact ⟨fun _ => State.tickButtons_atRest (hinv.inFlight (.inl hq)) hd,
      fun hs => absurd hs (State.not_sampling_of_idle rfl)⟩
  | tickEnds hq _ hd =>
    exact ⟨fun _ => State.ttComplete_atRest _ (State.tickButtons_atRest (hinv.inFlight (.inr hq)) hd),
      fun hs => absurd hs (State.ttComplete_not_sampling _ _)⟩
  | slot hq =>
    exact ⟨fun _ => hinv.atRest (by simp [State.sampling, hq]), fun hs => absurd hs (State.not_sampling_of_idle rfl)⟩
  | _ =>
    have hrest : s.dbnAtRest := hinv.atRest (State.not_sampling_of_idle ‹_›)
    exact ⟨fun _ => State.dbnAtRest_congr (by simp) hrest,
      fun hs => absurd hs (State.not_sampling_of_idle (by simpa using ‹s.seq = .idle›))⟩

/-- KA_CNT and LAST_SEEN fit their widths (R51, R55). -/
theorem EdgeWrites.inv_widths (h : EdgeWrites s u) (hinv : s.Inv) :
    u.kaCnt < 2 ^ s.par.kaW ∧ u.lastSeen < 2 ^ s.par.tW := by
  cases h with
  | decodeStatus => exact ⟨by simpa using hinv.kaCnt_lt, State.nowIn_lt _⟩
  | decodeKeepalive => exact ⟨by simpa using hinv.kaCnt_lt, State.nowIn_lt _⟩
  | tickReleased => exact ⟨State.ttComplete_kaCnt_lt _ _, by simpa using hinv.lastSeen_lt⟩
  | tickEnds => exact ⟨State.ttComplete_kaCnt_lt _ _, by simpa using hinv.lastSeen_lt⟩
  | _ => exact ⟨by simpa using hinv.kaCnt_lt, by simpa using hinv.lastSeen_lt⟩

/-- FRAME_OUT passes the checksum test (R107). -/
theorem EdgeWrites.inv_sealed (h : EdgeWrites s u) (hinv : s.Inv) : cks6 u.frameOut = byteOf u.frameOut 6 := by
  cases h with
  | encStatus => exact sealFrame_passes ..
  | encKeepalive => exact sealFrame_passes ..
  | slot => exact sealFrame_passes ..
  | tickReleased => exact State.ttComplete_sealed _ hinv.frameSealed
  | tickEnds => exact State.ttComplete_sealed _ hinv.frameSealed
  | _ => simpa using hinv.frameSealed

/-- A reserved code raises ILLEGAL_STB and sends nothing; every other edge leaves ILLEGAL_STB 0 (R56, R102). -/
theorem EdgeWrites.inv_oneStrobe (h : EdgeWrites s u) : ¬ (u.txStb = true ∧ u.illegalStb = true) := by
  cases h with
  | reserved => exact fun ⟨htx, _⟩ => by cases htx
  | _ => simp

/-- An edge that leaves a sample in flight raises no strobe (R141, R142). -/
theorem EdgeWrites.inv_quietWait (h : EdgeWrites s u) (hs : u.sampling) : u.txStb = false ∧ u.illegalStb = false := by
  cases h with
  | samplePressed => exact ⟨rfl, rfl⟩
  | tickPressed => exact ⟨rfl, rfl⟩
  | waitOn => exact ⟨rfl, rfl⟩
  | tickReleased => exact absurd hs (State.ttComplete_not_sampling _ _)
  | tickEnds => exact absurd hs (State.ttComplete_not_sampling _ _)
  | sampleEnds => exact absurd hs (State.not_sampling_of_idle rfl)
  | slot => exact absurd hs (State.not_sampling_of_idle rfl)
  | _ => exact absurd hs (State.not_sampling_of_idle (by simpa using ‹s.seq = .idle›))

/-- Only the completion of a tick enters the keepalive slot (R201). -/
theorem EdgeWrites.inv_slot (h : EdgeWrites s u) (hu : u.seq = .ttKa) :
    u.txStb = true ∧ u.frameOut = encS u.curKeys u.curX u.curY ∧ u.kaCnt = 0 ∧ u.curValid = true ∧ u.changed = true := by
  cases h with
  | tickReleased => exact State.ttComplete_slot hu
  | tickEnds => exact State.ttComplete_slot hu
  | waitOn hs => simp [State.sampling, show s.seq = .ttKa from hu] at hs
  | samplePressed => cases hu
  | tickPressed => cases hu
  | sampleEnds => cases hu
  | slot => cases hu
  | _ => simp [‹s.seq = .idle›] at hu

/-- Before the first change test nothing is stored (R49, R146). -/
theorem EdgeWrites.inv_unstored (h : EdgeWrites s u) (hinv : s.Inv) (hu : u.curValid = false) :
    u.curKeys = 0#5 ∧ u.curX = 0#10 ∧ u.curY = 0#10 ∧ u.changed = false := by
  cases h with
  | changeStored => cases hu
  | noChange _ _ ht => simp [State.hcTest_of_unstored (show s.curValid = false from hu)] at ht
  | tickReleased => exact absurd hu (by rw [State.ttComplete_stored]; decide)
  | tickEnds => exact absurd hu (by rw [State.ttComplete_stored]; decide)
  | _ => simpa using hinv.unstored (by simpa using hu)

/-- The result code of a frame that is not good is an error's (R178). -/
theorem DecCode.ofClass_of_not_good {c : FrameClass} (h : c.good = false) :
    DecCode.ofClass c ≠ .status ∧ DecCode.ofClass c ≠ .keepalive := by
  cases c with
  | status => cases h
  | keepalive => cases h
  | lengthError | checksumError | unknownFrameType => exact ⟨nofun, nofun⟩

/-- What the supervisor and the decoder hold before the first good frame (R226, R227). -/
theorem EdgeWrites.inv_unseen (h : EdgeWrites s u) (hinv : s.Inv) (hu : u.seen = false) :
    u.lastSeen = 0 ∧ u.expired = false ∧ u.aliveR = false ∧ u.decCode ≠ .status ∧ u.decCode ≠ .keepalive ∧
      u.decKeys = 0#8 ∧ u.decX = 0#16 ∧ u.decY = 0#16 := by
  cases h with
  | decodeStatus => cases hu
  | decodeKeepalive => cases hu
  | decodeRejected _ _ hg =>
    obtain ⟨hlast, hexp, halive, -, -, hfields⟩ := hinv.unseen hu
    obtain ⟨hstatus, hkeepalive⟩ := DecCode.ofClass_of_not_good hg
    exact ⟨hlast, hexp, halive, hstatus, hkeepalive, hfields⟩
  | isAlive =>
    obtain ⟨hlast, hexp, -, hrest⟩ := hinv.unseen hu
    have hdead : s.comparator = false := by simp [State.comparator, show s.seen = false from hu]
    exact ⟨hlast, hexp, hdead, hrest⟩
  | _ => simpa using hinv.unseen (by simpa using hu)

/-! ### The invariant -/

/-- The writes of an edge keep the invariant. -/
theorem EdgeWrites.keeps_inv (h : EdgeWrites s u) (hinv : s.Inv) : u.Inv := by
  obtain ⟨hpar, -, -⟩ := h.ports_unchanged
  obtain ⟨hka, hlast⟩ := h.inv_widths hinv
  obtain ⟨hrest, hflight⟩ := h.inv_debounce hinv
  exact {
    legal := hpar ▸ hinv.legal
    kaCnt_lt := hpar ▸ hka
    lastSeen_lt := hpar ▸ hlast
    atRest := hrest
    inFlight := hflight
    frameSealed := h.inv_sealed hinv
    oneStrobe := h.inv_oneStrobe
    quietWait := h.inv_quietWait
    slot := h.inv_slot
    unstored := h.inv_unstored hinv
    unseen := h.inv_unseen hinv }

/-- The invariant is about the registers and the build: the next cycle's ports do not matter. -/
theorem State.Inv.advancePorts (h : s.Inv) : s.advancePorts.Inv where
  legal := h.legal
  kaCnt_lt := h.kaCnt_lt
  lastSeen_lt := h.lastSeen_lt
  atRest := h.atRest
  inFlight := h.inFlight
  frameSealed := h.frameSealed
  oneStrobe := h.oneStrobe
  quietWait := h.quietWait
  slot := h.slot
  unstored := h.unstored
  unseen := h.unseen

/-- The expiry needs a good frame, so it keeps the invariant (R223, R226). -/
theorem State.Inv.expire (h : s.Inv) : s.expire.Inv := by
  unfold State.expire
  split
  next ht =>
    have hseen : s.seen = true := by
      simp only [State.timedOut, Bool.and_eq_true] at ht
      exact ht.1.1
    exact { h with unseen := fun hu => by simp [hseen] at hu }
  · exact h

/-- The registers of the reset state meet the invariant on every legal build (R59). -/
theorem State.inv_resetRegisters (hl : s.par.legal = true) : s.resetRegisters.Inv where
  legal := hl
  kaCnt_lt := Nat.two_pow_pos _
  lastSeen_lt := Nat.two_pow_pos _
  atRest := fun _ i => by simp [Button.released]
  inFlight := fun hs => absurd hs (State.not_sampling_of_idle rfl)
  frameSealed := show cks6 0#56 = byteOf 0#56 6 by decide
  oneStrobe := fun ⟨htx, _⟩ => by cases htx
  quietWait := fun _ => ⟨rfl, rfl⟩
  slot := fun hq => by cases hq
  unstored := fun _ => ⟨rfl, rfl, rfl, rfl⟩
  unseen := fun _ => ⟨rfl, rfl, rfl, by simp, by simp, rfl, rfl, rfl⟩

/-- The build of State.reset is legal, whatever its DEBOUNCE_CYCLES (R5, R6, log 2). -/
theorem Config.params_legal : Config.params.legal = true := by
  rw [Params.legal_iff]
  simp [Config.params, Config.debounceCycles]

end

/-- Settles O54: State.reset is a state whose registers have been reset. -/
theorem invariantHoldsAtReset : Obligations.InvariantHoldsAtReset :=
  State.inv_resetRegisters (s := State.reset) Config.params_legal

/-- Settles O55: a reset edge establishes the invariant anew; the writes of every other edge keep it, and so do the expiry
and the move of the ports. -/
theorem everyStepKeepsTheInvariant : Obligations.EveryStepKeepsTheInvariant := by
  intro s t hinv h
  cases hr : s.inp.rst with
  | true =>
    obtain rfl : s.resetRegisters.advancePorts = t := by simpa [step_of_reset hinv.legal hr] using h
    exact (State.inv_resetRegisters hinv.legal).advancePorts
  | false =>
    obtain ⟨u, hw, rfl⟩ := EdgeWrites.of_step h hr
    exact (hw.keeps_inv hinv).expire.advancePorts

end Machine

end Sys2Proof

/-!
PROOFS of the statements of spec/20_memory.md: what DECODE and CHECKSUM answer depends on the delivered bytes of the receive
port alone, and their writes do not touch the port.
-/

namespace Sys2Proof

/-! ### What a receive frame is read for -/

/-- The first `n` bytes are all that `firstBytes` reads. -/
theorem firstBytes_congr {f g : Frame} {n : Nat} (h : ∀ k, k < n → byteOf f k = byteOf g k) :
    firstBytes f n = firstBytes g n :=
  List.map_congr_left fun k hk => h k (List.mem_range.mp hk)

/-- The length test comes first (R177): a frame of any other length is not looked at. -/
theorem dec_of_length_ne {len : Nat} (hlen : len ≠ 7) (kaPre : Byte) (f : Frame) : dec kaPre len f = .lengthError :=
  if_pos hlen

/-- The decoder reads delivered bytes only: none at a length other than 7, and all seven at 7 (R88, R177). -/
theorem dec_congr {len : Nat} {f g : Frame} (kaPre : Byte)
    (h : ∀ k, k < len → k < 7 → byteOf f k = byteOf g k) : dec kaPre len f = dec kaPre len g := by
  by_cases hlen : len = 7
  · subst hlen
    rw [frame_ext fun k hk => h k hk hk]
  · rw [dec_of_length_ne hlen, dec_of_length_ne hlen]

namespace Machine

/-! ### Another frame on the receive port -/

/-- `s` with `g` on `rx_frame_i`, its other ports as they are. -/
def State.withRxFrame (s : State) (g : Frame) : State := { s with inp := { s.inp with rxFrame := g } }

/-- DECODE's operand is the same for two frames that agree on the delivered bytes (R88). -/
theorem State.received_withRxFrame {s : State} {g : Frame}
    (h : ∀ k, k < s.rxLenIn → k < 7 → byteOf g k = byteOf s.inp.rxFrame k) : (s.withRxFrame g).received = s.received :=
  dec_congr s.par.kaPreamble h

/-- CHECKSUM's operand is the same for two frames that agree on the delivered bytes (R88). -/
theorem State.firstBytes_sliceLen_congr {s : State} {g : Frame}
    (h : ∀ k, k < s.rxLenIn → k < 7 → byteOf g k = byteOf s.inp.rxFrame k) :
    firstBytes g s.sliceLen = firstBytes s.inp.rxFrame s.sliceLen := by
  refine firstBytes_congr fun k hk => ?_
  obtain ⟨hlen, hseven⟩ : k < s.rxLenIn ∧ k < 7 := lt_min_iff.mp hk
  exact h k hlen hseven

/-! ### DECODE and CHECKSUM beside the receive port -/

/-- What DECODE writes for each result of the decoder (R179). -/
def State.decodeWrites (s : State) (c : FrameClass) : State :=
  match c with
  | .status keys x y => ((s.setDecCode .status).setDecFields keys x y).refresh
  | .keepalive => (s.setDecCode .keepalive).refresh
  | .lengthError => s.setDecCode .lengthError
  | .checksumError => s.setDecCode .checksumError
  | .unknownFrameType => s.setDecCode .unknownFrameType

/-- DECODE makes the writes of the result it received. -/
theorem exec_decode_eq (s : State) : exec .decode s = .next (s.decodeWrites s.received) := by
  change execDecode s = _
  unfold execDecode
  cases s.received with
  | status keys x y => rfl
  | keepalive => rfl
  | lengthError => rfl
  | checksumError => rfl
  | unknownFrameType => rfl

/-- CHECKSUM writes the fold of the delivered bytes (R172). -/
theorem exec_checksum_eq (s : State) :
    exec .checksum s = .next (s.setCks (xorfold (firstBytes s.inp.rxFrame s.sliceLen))) := rfl

/-- For a given result, DECODE's writes and the frame on the port do not look at each other. -/
theorem State.decodeWrites_withRxFrame (s : State) (g : Frame) (c : FrameClass) :
    (s.withRxFrame g).decodeWrites c = (s.decodeWrites c).withRxFrame g := by
  cases c with
  | status keys x y => rfl
  | keepalive => rfl
  | lengthError => rfl
  | checksumError => rfl
  | unknownFrameType => rfl

/-- DECODE with a frame that agrees on the delivered bytes (R88). -/
theorem exec_decode_withRxFrame {s : State} {g : Frame}
    (h : ∀ k, k < s.rxLenIn → k < 7 → byteOf g k = byteOf s.inp.rxFrame k) :
    exec .decode (s.withRxFrame g) = .next ((s.decodeWrites s.received).withRxFrame g) := by
  rw [exec_decode_eq, State.received_withRxFrame h, State.decodeWrites_withRxFrame]

/-- CHECKSUM with a frame that agrees on the delivered bytes (R88). -/
theorem exec_checksum_withRxFrame {s : State} {g : Frame}
    (h : ∀ k, k < s.rxLenIn → k < 7 → byteOf g k = byteOf s.inp.rxFrame k) :
    exec .checksum (s.withRxFrame g) =
      .next ((s.setCks (xorfold (firstBytes s.inp.rxFrame s.sliceLen))).withRxFrame g) := by
  rw [← State.firstBytes_sliceLen_congr h]
  rfl

/-- Settles O35: both operations read delivered bytes only, and their writes leave the receive port alone. -/
theorem undeliveredBytesHaveNoEffect : Obligations.UndeliveredBytesHaveNoEffect := by
  intro s t g hagree
  refine ⟨fun hdec => ?_, fun hcks => ?_⟩
  · obtain rfl : s.decodeWrites s.received = t := by simpa [exec_decode_eq] using hdec
    exact exec_decode_withRxFrame hagree
  · obtain rfl : s.setCks (xorfold (firstBytes s.inp.rxFrame s.sliceLen)) = t := by
      simpa [exec_checksum_eq] using hcks
    exact exec_checksum_withRxFrame hagree

end Machine

end Sys2Proof

/-!
PROOFS of the statements of spec/30_encoding.md: the two decoders undo the encoder and are undone by it, a received
frame acts as its row, and what an edge with no operation, with a reserved code or with an operation in flight does.
-/

namespace Sys2Proof

/-! ### The command decoder -/

/-- One row of the command table covers each code (R101). -/
theorem commandRows_cover_once :
    ∀ op : BitVec 4, (commandRows.filter fun q => q.covers op).length = 1 := by
  decide

/-- A row that covers a code bears the mnemonic of the decoded instruction (R101, R116). -/
theorem mnemonic_of_covers :
    ∀ op : BitVec 4, ∀ r ∈ commandRows, r.covers op = true → r.mnemonic = (decodeCommand op).mnemonic := by
  decide

/-- Settles O1: the one row that covers a code bears its mnemonic. -/
theorem everyCommandCodeSelectsOneRow : Obligations.EveryCommandCodeSelectsOneRow := by
  intro op
  obtain ⟨r, hr⟩ := List.length_eq_one_iff.mp (commandRows_cover_once op)
  obtain ⟨hmem, hcovers⟩ := List.mem_filter.mp (hr ▸ List.mem_singleton_self r)
  exact ⟨r, hr, mnemonic_of_covers op r hmem hcovers⟩

/-- A code decodes to the instruction it is the code of (R101), whatever a reserved code's free bits are (R103). -/
theorem decodeCommand_of_encode {kaPre : Byte} {i : Instr} {op : BitVec 4} (h : encode kaPre i = .command op) :
    decodeCommand op = i := by
  cases i with
  | reservedAB lo =>
    cases h
    revert lo
    decide
  | reservedCF lo =>
    cases h
    revert lo
    decide
  | frameStatus | frameKeepalive | frameUnknown => cases h
  | _ => cases h; rfl

/-- A code is the code of the instruction it decodes to: no row drops a bit (R101). The preamble plays no part. -/
theorem encode_decodeCommand (kaPre : Byte) (op : BitVec 4) : encode kaPre (decodeCommand op) = .command op := by
  have hcodes : ∀ op : BitVec 4, encode 0#8 (decodeCommand op) = .command op := by decide
  obtain ⟨hframeS, hframeK, hframeU⟩ := decodeCommand_not_frame op
  rw [← hcodes op]
  cases hi : decodeCommand op with
  | frameStatus k x y => exact absurd hi (hframeS k x y)
  | frameKeepalive p => exact absurd hi (hframeK p)
  | frameUnknown b p => exact absurd hi (hframeU b p)
  | _ => rfl

/-- Only an unknown frame's preamble is ever not well formed (R110). -/
theorem decodeCommand_wellFormed (kaPre : Byte) (op : BitVec 4) : (decodeCommand op).wellFormed kaPre = true := by
  obtain ⟨-, -, hframeU⟩ := decodeCommand_not_frame op
  cases hi : decodeCommand op with
  | frameUnknown b p => exact absurd hi (hframeU b p)
  | _ => rfl

/-- A code decodes to a reserved instruction exactly from 9 on (R103). -/
theorem decodeCommand_isReserved_iff : ∀ op : BitVec 4, (decodeCommand op).isReserved = true ↔ 9 ≤ op.toNat := by
  decide

/-! ### Bytes, halves and payloads -/

/-- The value of a joined axis field (R109). -/
theorem axisJoin_toNat (hi lo : Byte) : (axisJoin hi lo).toNat = hi.toNat * 256 + lo.toNat := by
  rw [axisJoin, BitVec.toNat_append, ← Nat.shiftLeft_add_eq_or_of_lt lo.isLt, Nat.shiftLeft_eq]

/-- The high byte of an axis value is its quotient by 256 (R108). -/
theorem axisHigh_toNat (v : BitVec 10) : (axisHigh v).toNat = v.toNat / 256 := by
  have := v.isLt
  simp only [axisHigh, BitVec.toNat_setWidth, BitVec.extractLsb'_toNat, Nat.shiftRight_eq_div_pow]
  omega

/-- The low byte of an axis value is its remainder by 256 (R108). -/
theorem axisLow_toNat (v : BitVec 10) : (axisLow v).toNat = v.toNat % 256 := by
  simp [axisLow]

/-- Settles O5: the join multiplies the quotient by 256 and adds the remainder. -/
theorem axisSplitAndJoin : Obligations.AxisSplitAndJoin := by
  intro v
  refine ⟨axisHigh_toNat v, axisLow_toNat v, BitVec.eq_of_toNat_eq ?_⟩
  have := v.isLt
  rw [axisJoin_toNat, axisHigh_toNat, axisLow_toNat, BitVec.toNat_setWidth]
  omega

/-- The upper half of a joined field is its high byte (R84, R109). -/
@[simp] theorem upperByte_axisJoin (hi lo : Byte) : upperByte (axisJoin hi lo) = hi := by
  apply BitVec.eq_of_toNat_eq
  have := lo.isLt
  have := hi.isLt
  rw [upperByte, BitVec.extractLsb'_toNat, axisJoin_toNat, Nat.shiftRight_eq_div_pow]
  omega

/-- The lower half of a joined field is its low byte (R84, R109). -/
@[simp] theorem lowerByte_axisJoin (hi lo : Byte) : lowerByte (axisJoin hi lo) = lo := by
  apply BitVec.eq_of_toNat_eq
  have := lo.isLt
  rw [lowerByte, BitVec.extractLsb'_toNat, axisJoin_toNat, Nat.shiftRight_zero]
  omega

/-- The first byte of a frame sealed from a payload. -/
@[simp] theorem byteOf_sealPayload_0 (b0 : Byte) (p : BitVec 40) : byteOf (sealPayload b0 p) 0 = b0 :=
  byteOf_sealFrame_0 ..

/-- A frame that passes the checksum test is its first six bytes, sealed (R107, R171). -/
theorem sealFrame_byteOf {f : Frame} (hsum : cks6 f = byteOf f 6) :
    sealFrame (byteOf f 0) (byteOf f 1) (byteOf f 2) (byteOf f 3) (byteOf f 4) (byteOf f 5) = f := by
  rw [sealFrame, ← firstBytes_six, ← cks6, hsum, packFrame_byteOf]

/-- A frame that passes the checksum test is its first byte and its payload, sealed (R107, R171). -/
theorem sealPayload_payloadOf {f : Frame} (hsum : cks6 f = byteOf f 6) :
    sealPayload (byteOf f 0) (payloadOf f) = f := by
  simp only [sealPayload, payloadByte_payloadOf f (show 0 < 5 by decide),
    payloadByte_payloadOf f (show 1 < 5 by decide), payloadByte_payloadOf f (show 2 < 5 by decide),
    payloadByte_payloadOf f (show 3 < 5 by decide), payloadByte_payloadOf f (show 4 < 5 by decide)]
  exact sealFrame_byteOf hsum

/-! ### The frame decoder -/

section
variable {kaPre : Byte} {f : Frame}

/-- A frame of length 7 with a valid checksum and preamble 0xAA (R177). -/
theorem dec_of_status (hsum : cks6 f = byteOf f 6) (h0 : byteOf f 0 = Config.stPreamble) :
    dec kaPre Config.frameLen f =
      .status (byteOf f 1) (axisJoin (byteOf f 2) (byteOf f 3)) (axisJoin (byteOf f 4) (byteOf f 5)) := by
  simp [dec, hsum, h0]

/-- A frame of length 7 with a valid checksum and preamble KA_PREAMBLE (R177). -/
theorem dec_of_keepalive (hsum : cks6 f = byteOf f 6) (h0 : byteOf f 0 ≠ Config.stPreamble)
    (hk : byteOf f 0 = kaPre) : dec kaPre Config.frameLen f = .keepalive := by
  subst hk
  simp [dec, hsum, h0]

/-- A frame of length 7 with a valid checksum and no known preamble (R177). -/
theorem dec_of_unknown (hsum : cks6 f = byteOf f 6) (h0 : byteOf f 0 ≠ Config.stPreamble)
    (hk : byteOf f 0 ≠ kaPre) : dec kaPre Config.frameLen f = .unknownFrameType := by
  simp [dec, hsum, h0, hk]

end

/-- What the frame decoder reads from a frame of length 7 that passes the checksum test: the row its preamble selects
(R177). -/
inductive FrameRow (kaPre : Byte) (f : Frame) : Instr → Prop where
  /-- A Status frame, on any build (R105). -/
  | status (h0 : byteOf f 0 = Config.stPreamble) :
      FrameRow kaPre f
        (.frameStatus (byteOf f 1) (axisJoin (byteOf f 2) (byteOf f 3)) (axisJoin (byteOf f 4) (byteOf f 5)))
  /-- A Keepalive of this build (R106). -/
  | keepalive (h0 : byteOf f 0 ≠ Config.stPreamble) (hk : byteOf f 0 = kaPre) :
      FrameRow kaPre f (.frameKeepalive (payloadOf f))
  /-- Any other preamble (R110). -/
  | unknown (h0 : byteOf f 0 ≠ Config.stPreamble) (hk : byteOf f 0 ≠ kaPre) :
      FrameRow kaPre f (.frameUnknown (byteOf f 0) (payloadOf f))

/-- The frame decoder reads a row exactly from a frame of length 7 with a valid checksum (R177). -/
theorem decodeFrame_eq_ok_iff {kaPre : Byte} {len : Nat} {f : Frame} {i : Instr} :
    decodeFrame kaPre len f = .ok i ↔ len = Config.frameLen ∧ cks6 f = byteOf f 6 ∧ FrameRow kaPre f i := by
  constructor
  · intro h
    unfold decodeFrame dec at h
    split_ifs at h with hlen hsum h0 hk
    · cases h
      exact ⟨not_not.mp hlen, not_not.mp hsum, .status h0⟩
    · cases h
      exact ⟨not_not.mp hlen, not_not.mp hsum, .keepalive h0 hk⟩
    · cases h
      exact ⟨not_not.mp hlen, not_not.mp hsum, .unknown h0 hk⟩
  · rintro ⟨rfl, hsum, hrow⟩
    cases hrow with
    | status h0 => rw [decodeFrame, dec_of_status hsum h0]
    | keepalive h0 hk => rw [decodeFrame, dec_of_keepalive hsum h0 hk]
    | unknown h0 hk => rw [decodeFrame, dec_of_unknown hsum h0 hk]

/-- An unknown frame is well formed when its preamble is no known one (R110). -/
theorem Instr.wellFormed_frameUnknown_iff {kaPre pre : Byte} {p : BitVec 40} :
    (Instr.frameUnknown pre p).wellFormed kaPre = true ↔ pre ≠ Config.stPreamble ∧ pre ≠ kaPre := by
  simp [Instr.wellFormed]

/-- The encoder's frames hold the row they encode, sealed and of length 7 (R105, R106, R107, R110). -/
theorem frameRow_of_encode {kaPre : Byte} {i : Instr} {len : Nat} {f : Frame} (hpre : kaPre ≠ Config.stPreamble)
    (hwf : i.wellFormed kaPre = true) (h : encode kaPre i = .wire len f) :
    len = Config.frameLen ∧ cks6 f = byteOf f 6 ∧ FrameRow kaPre f i := by
  cases i with
  | frameStatus keys x y =>
    cases h
    have hrow := FrameRow.status (kaPre := kaPre)
      (byteOf_sealFrame_0 Config.stPreamble keys (upperByte x) (lowerByte x) (upperByte y) (lowerByte y))
    exact ⟨rfl, cks6_sealFrame .., by simpa using hrow⟩
  | frameKeepalive p =>
    cases h
    have h0 := byteOf_sealPayload_0 kaPre p
    exact ⟨rfl, cks6_sealFrame .., by simpa using FrameRow.keepalive (by rwa [h0]) h0⟩
  | frameUnknown pre p =>
    cases h
    obtain ⟨hst, hka⟩ := Instr.wellFormed_frameUnknown_iff.mp hwf
    have h0 := byteOf_sealPayload_0 pre p
    have hrow := FrameRow.unknown (kaPre := kaPre) (f := sealPayload pre p) (by rwa [h0]) (by rwa [h0])
    exact ⟨rfl, cks6_sealFrame .., by simpa using hrow⟩
  | _ => cases h

/-- A row read from a frame encodes to that frame and is well formed (R110, R177). -/
theorem FrameRow.encode_eq {kaPre : Byte} {f : Frame} {i : Instr} (hrow : FrameRow kaPre f i)
    (hsum : cks6 f = byteOf f 6) : encode kaPre i = .wire Config.frameLen f ∧ i.wellFormed kaPre = true := by
  cases hrow with
  | status h0 =>
    refine ⟨?_, rfl⟩
    simp only [encode, upperByte_axisJoin, lowerByte_axisJoin, ← h0, sealFrame_byteOf hsum]
  | keepalive h0 hk =>
    refine ⟨?_, rfl⟩
    rw [encode, ← hk, sealPayload_payloadOf hsum]
  | unknown h0 hk =>
    refine ⟨?_, Instr.wellFormed_frameUnknown_iff.mpr ⟨h0, hk⟩⟩
    rw [encode, sealPayload_payloadOf hsum]

/-! ### Both decoders and the encoder -/

/-- Settles O3: the encoding is a code or a sealed frame, and its decoder reads back the instruction. -/
theorem decodeUndoesEncode : Obligations.DecodeUndoesEncode := by
  intro kaPre i hpre hwf
  cases he : encode kaPre i with
  | command op => exact congrArg _ (decodeCommand_of_encode he)
  | wire len f => exact decodeFrame_eq_ok_iff.mpr (frameRow_of_encode hpre hwf he)

/-- Settles O4: a code decodes without loss, and a frame that decodes is sealed, so its bytes give it back. -/
theorem encodeUndoesDecode : Obligations.EncodeUndoesDecode := by
  intro kaPre e i h
  cases e with
  | command op =>
    obtain rfl : decodeCommand op = i := by simpa [decode] using h
    exact ⟨encode_decodeCommand kaPre op, decodeCommand_wellFormed kaPre op⟩
  | wire len f =>
    obtain ⟨rfl, hsum, hrow⟩ := decodeFrame_eq_ok_iff.mp h
    exact hrow.encode_eq hsum

/-- Settles O2, word by word. -/
theorem wordsOfTheSpecDecode : Obligations.WordsOfTheSpecDecode :=
  ⟨rfl, rfl, rfl, rfl, rfl, by decide, by decide, by decide, by decide, by decide⟩

namespace Machine

/-! ### The frame rows -/

/-- A row that the frame decoder reads from the receive port writes what DECODE writes for that port (R110, log 6). -/
theorem exec_of_decodeFrame {s : State} {i : Instr}
    (h : decodeFrame s.par.kaPreamble s.rxLenIn s.inp.rxFrame = .ok i) :
    exec i s = .next (s.decodeWrites s.received) := by
  obtain ⟨hlen, hsum, hrow⟩ := decodeFrame_eq_ok_iff.mp h
  rw [State.received, hlen]
  cases hrow with
  | status h0 => rw [dec_of_status hsum h0]; rfl
  | keepalive h0 hk => rw [dec_of_keepalive hsum h0 hk]; rfl
  | unknown h0 hk => rw [dec_of_unknown hsum h0 hk]; rfl

/-- Settles O26: DECODE and the row write the same, and the row encodes back to the frame, so it is well formed. -/
theorem decodeActsAsTheFrameRow : Obligations.DecodeActsAsTheFrameRow := by
  intro s i h
  obtain ⟨-, hwf⟩ := encodeUndoesDecode s.par.kaPreamble (.wire s.rxLenIn s.inp.rxFrame) i h
  exact ⟨by rw [exec_decode_eq, exec_of_decodeFrame h], hwf⟩

/-- Settles O27, row by row. -/
theorem frameRowsWriteTheirResults : Obligations.FrameRowsWriteTheirResults :=
  fun _ _ _ _ _ _ => ⟨rfl, rfl, rfl⟩

/-! ### Edges that accept nothing -/

/-- An edge with no operation offered to an idle block (R102). -/
theorem step_of_no_offer {s : State} (hl : s.par.legal = true) (hr : s.inp.rst = false) (hq : s.seq = .idle)
    (hv : s.inp.opValid = false) : step s = .next s.returnStrobes.finishEdge := by
  simp [step_of_legal hl, hr, hq, hv]

/-- An edge of an operation in flight (R102). -/
theorem step_of_busy {s : State} (hl : s.par.legal = true) (hr : s.inp.rst = false) (hq : s.seq ≠ .idle) :
    step s = .next s.returnStrobes.sequencerStep.finishEdge := by
  simp [step_of_legal hl, hr, hq]

/-- Settles O8: a reset edge, a sequencer step, an accepted operation and an idle edge each have a next state. -/
theorem legalBlockNeverStops : Obligations.LegalBlockNeverStops := by
  intro s hl
  cases hr : s.inp.rst with
  | true => exact ⟨_, step_of_reset hl hr⟩
  | false =>
    by_cases hq : s.seq = .idle
    · cases hv : s.inp.opValid with
      | true =>
        obtain ⟨t, -, hstep⟩ := stepRunsTheOfferedOperation s hl hr hq hv
        exact ⟨_, hstep⟩
      | false => exact ⟨_, step_of_no_offer hl hr hq hv⟩
    · exact ⟨_, step_of_busy hl hr hq⟩

/-- EXPIRED after the expiry: what it was, or the timeout has passed since a good frame (R223). -/
theorem State.timedOut_or_expired (s : State) :
    (s.timedOut || s.expired) = (s.expired || (s.seen && decide (s.timeoutIn < s.delta s.nowIn))) := by
  rw [State.timedOut]
  cases s.expired <;> simp

/-- Settles O7: only the strobe return, the expiry and the ports are left. -/
theorem idleEdgeChangesNothing : Obligations.IdleEdgeChangesNothing := by
  intro s hl hr hq hv
  rw [step_of_no_offer hl hr hq hv, State.finishEdge_eq, State.timedOut_returnStrobes, State.returnStrobes_expired,
    State.timedOut_or_expired]
  rfl

/-! ### NOP and the reserved codes -/

/-- A reserved instruction raises ILLEGAL_STB and is otherwise NOP (R103). -/
theorem exec_of_reserved {i : Instr} (hi : i.isReserved = true) (s : State) : exec i s = .next s.raiseIllegal := by
  cases i with
  | reserved9 => rfl
  | reservedAB lo => rfl
  | reservedCF lo => rfl
  | _ => cases hi

/-- ILLEGAL_STB and the end of an edge do not look at each other (R223, log 4). -/
theorem State.finishEdge_raiseIllegal (s : State) : s.raiseIllegal.finishEdge = s.finishEdge.raiseIllegal := by
  rw [State.finishEdge_eq, State.finishEdge_eq, State.timedOut_raiseIllegal]
  rfl

/-- An edge that accepts code 0x0 (R103). -/
theorem step_of_nop {s : State} (hl : s.par.legal = true) (hr : s.inp.rst = false) (hq : s.seq = .idle)
    (hv : s.inp.opValid = true) (ho : s.inp.op = 0x0#4) : step s = .next s.returnStrobes.finishEdge := by
  have hi : s.offered = .nop := congrArg decodeCommand ho
  rw [step_of_accepted hl hr hq hv, hi]
  rfl

/-- An edge that accepts a code from 0x9 on (R103, R242). -/
theorem step_of_reserved {s : State} (hl : s.par.legal = true) (hr : s.inp.rst = false) (hq : s.seq = .idle)
    (hv : s.inp.opValid = true) (ho : 9 ≤ s.inp.op.toNat) :
    step s = .next s.returnStrobes.finishEdge.raiseIllegal := by
  have hi : s.offered.isReserved = true := (decodeCommand_isReserved_iff s.inp.op).mpr ho
  rw [step_of_accepted hl hr hq hv, exec_of_reserved hi, afterOperation, State.finishEdge_raiseIllegal]

/-- After an edge with no operation offered ILLEGAL_STB is 0 (R56, R59). -/
theorem illegalStb_of_no_offer {s t : State} (h : step s = .next t) (hv : s.inp.opValid = false) :
    t.illegalStb = false := by
  cases hr : s.inp.rst with
  | true =>
    obtain ⟨hl, -⟩ := step_cases h
    obtain rfl : s.resetRegisters.advancePorts = t := by simpa [step_of_reset hl hr] using h
    rfl
  | false =>
    obtain ⟨u, hw, rfl⟩ := EdgeWrites.of_step h hr
    rw [State.finishEdge_illegalStb]
    exact hw.illegalStb_false (by simp [State.accepted_of_no_offer hv])

/-- Settles O14: exec's arms, and the edges that accept these codes. -/
theorem nopAndReservedCodes : Obligations.NopAndReservedCodes := by
  refine ⟨fun s a b => ⟨rfl, rfl, rfl, rfl⟩, fun s hl hr hq hv => ⟨step_of_nop hl hr hq hv, fun ho => ?_⟩⟩
  have hready : s.returnStrobes.finishEdge.raiseIllegal.outputs.ready = true := by
    simp [State.outputs, State.ready, hq]
  exact ⟨_, step_of_reserved hl hr hq hv ho, rfl, rfl, hready, fun hv' u hu => illegalStb_of_no_offer hu hv'⟩

/-! ### The command, argument and receive ports of a busy block -/

/-- `s` with the command, argument and receive ports as `q` has them, its other ports as they are. -/
def State.withCommandOf (s : State) (q : Inputs) : State :=
  { s with inp := { s.inp with
      opValid := q.opValid
      op := q.op
      argKeys := q.argKeys
      argX := q.argX
      argY := q.argY
      rxLen := q.rxLen
      rxFrame := q.rxFrame } }

section
variable (s : State) (q : Inputs)

/-- The completion of a tick reads none of these ports (R201). -/
theorem State.ttComplete_withCommandOf (k : BitVec 5) :
    (s.withCommandOf q).ttComplete k = (s.ttComplete k).withCommandOf q := by
  rw [State.ttComplete_eq, State.ttComplete_eq]
  rfl

/-- The debounce step reads none of these ports (R142). -/
theorem State.debounceStep_withCommandOf : (s.withCommandOf q).debounceStep = s.debounceStep.withCommandOf q := by
  have hdone : (s.withCommandOf q).sampleDone = s.sampleDone := rfl
  have hseq : (s.withCommandOf q).seq = s.seq := rfl
  rw [State.debounceStep_eq, State.debounceStep_eq, hdone, hseq]
  split_ifs
  · rfl
  · rfl
  · exact State.ttComplete_withCommandOf ((s.setDbn s.tickButtons).setSampled s.secondReadKeys) q s.secondReadKeys

/-- No sequencer step reads these ports (R102, R274). -/
theorem State.sequencerStep_withCommandOf : (s.withCommandOf q).sequencerStep = s.sequencerStep.withCommandOf q := by
  unfold State.sequencerStep
  rw [show (s.withCommandOf q).seq = s.seq from rfl]
  cases s.seq with
  | idle => rfl
  | sbWait => exact State.debounceStep_withCommandOf s q
  | ttWait => exact State.debounceStep_withCommandOf s q
  | ttKa => rfl

/-- At the end of an edge these ports reach nothing but the ports of the next cycle (R223, log 4). -/
theorem State.finishEdge_withCommandOf :
    (s.withCommandOf q).finishEdge = { s.finishEdge with inp := (s.withCommandOf q).finishEdge.inp } := by
  rw [State.finishEdge_eq, State.finishEdge_eq]
  rfl

end

/-- With other values on these ports a busy block steps to the same registers, at a reset edge too (R102, R270,
R274). -/
theorem step_withCommandOf_of_busy {s t : State} (q : Inputs) (hq : s.seq ≠ .idle) (h : step s = .next t) :
    ∃ p, step (s.withCommandOf q) = .next { t with inp := p } := by
  obtain ⟨hl, -⟩ := step_cases h
  cases hr : s.inp.rst with
  | true =>
    obtain rfl : s.resetRegisters.advancePorts = t := by simpa [step_of_reset hl hr] using h
    exact ⟨_, step_of_reset (s := s.withCommandOf q) hl hr⟩
  | false =>
    obtain rfl : s.returnStrobes.sequencerStep.finishEdge = t := by simpa [step_of_busy hl hr hq] using h
    have hstep : step (s.withCommandOf q) = .next (s.returnStrobes.withCommandOf q).sequencerStep.finishEdge :=
      step_of_busy (s := s.withCommandOf q) hl hr hq
    rw [State.sequencerStep_withCommandOf, State.finishEdge_withCommandOf] at hstep
    exact ⟨_, hstep⟩

/-- Settles O52: a busy block leaves these ports unread, whatever values they hold. -/
theorem busyBlockReadsNoCommand : Obligations.BusyBlockReadsNoCommand := by
  intro s t v o k x y n f hq h
  exact step_withCommandOf_of_busy
    { s.inp with opValid := v, op := o, argKeys := k, argX := x, argY := y, rxLen := n, rxFrame := f } hq h

end Machine

end Sys2Proof

/-!
PROOFS of the statements of spec/40_input_sampler.md: the first read and the debounce edges of a sample, the change test and
what it stores, two ticks on inputs that stay, and the edges at which no raw input is read.
-/

namespace Sys2Proof

/-- `absdiff` of R15 is the absolute value of the integer difference. -/
theorem absdiff_eq_natAbs (a b : BitVec 10) : absdiff a b = ((a.toNat : Int) - b.toNat).natAbs := by
  unfold absdiff
  split <;> omega

namespace Machine

/-! ### The first read -/

/-- The first read of a button, level by level (R141). -/
theorem Button.firstRead_eq (cycles : Nat) (raw : Bool) :
    Button.firstRead cycles raw = if raw then ⟨true, .idle, 0⟩ else ⟨false, .wait, cycles⟩ := by
  cases raw <;> rfl

/-- SAMPLE_BUTTONS at its accepting edge, in both cases (R141). -/
theorem exec_sampleButtons_eq (s : State) :
    exec .sampleButtons s =
      .next (if s.inp.btnRaw = 0b11111#5 then (s.setDbn s.firstReads).setSampled 0#5
        else (s.setDbn s.firstReads).setSeq .sbWait) := by
  change Host.Outcome.next (s.dbnStart .sbWait).1 = _
  rw [State.dbnStart_eq]
  split_ifs <;> rfl

/-- Settles O16: both cases write the first reads, which rest where the level is 1 and wait where it is 0. -/
theorem sampleButtonsFirstRead : Obligations.SampleButtonsFirstRead := by
  intro s
  refine ⟨fun hb => ⟨s.firstReads, ?_, fun i => ?_⟩, fun hb => ⟨s.firstReads, ?_, fun i => ?_⟩⟩
  · rw [exec_sampleButtons_eq, if_pos hb]
    rfl
  · rw [State.firstReads_get, (State.rawLevel_all_iff s).mpr hb i, Button.firstRead_eq]
    rfl
  · rw [exec_sampleButtons_eq, if_neg hb]
    rfl
  · rw [State.firstReads_get, Button.firstRead_eq]
    rfl

/-! ### The change test -/

section
variable (s : State) (k : BitVec 5) (x y : BitVec 10)

/-- The change test in exact integers, its comparisons strict (R146). -/
theorem State.hcTest_iff :
    s.hcTest k x y = true ↔
      s.curValid = false ∨ k ≠ s.curKeys ∨ s.inp.thrX.toNat < ((x.toNat : Int) - s.curX.toNat).natAbs ∨
        s.inp.thrY.toNat < ((y.toNat : Int) - s.curY.toNat).natAbs := by
  simp [State.hcTest, absdiff_eq_natAbs, or_assoc]

variable {s k x y}

/-- HC that reports a change stores the whole sample (R146). -/
theorem State.hc_of_change (h : s.hcTest k x y = true) : s.hc k x y = ((s.storeCurrent k x y).setChanged true, true) :=
  if_pos h

/-- HC that reports none stores nothing (R146). -/
theorem State.hc_of_no_change (h : s.hcTest k x y = false) : s.hc k x y = (s.setChanged false, false) :=
  if_neg (by simp [h])

/-- The change test looks at the stored sample and the thresholds only (R146). -/
theorem State.hcTest_congr {u : State} (hv : u.curValid = s.curValid) (hk : u.curKeys = s.curKeys)
    (hx : u.curX = s.curX) (hy : u.curY = s.curY) (htx : u.inp.thrX = s.inp.thrX) (hty : u.inp.thrY = s.inp.thrY) :
    u.hcTest k x y = s.hcTest k x y := by
  rw [State.hcTest, State.hcTest, hv, hk, hx, hy, htx, hty]

/-- A sample just stored is no change from itself (R146). -/
theorem State.hcTest_storeCurrent : (s.storeCurrent k x y).hcTest k x y = false := by
  simp [State.hcTest, absdiff]

variable (s k x y)

/-- HC leaves SAMPLED_KEYS alone (R48, R146). -/
theorem State.hc_sampledKeys : (s.hc k x y).1.sampledKeys = s.sampledKeys := by rw [State.hc_eq]

/-- HC leaves the ports alone (R146). -/
theorem State.hc_inp : (s.hc k x y).1.inp = s.inp := by rw [State.hc_eq]

/-- After HC the same sample is no change: either it was stored, or it was none before (R148, R149). -/
theorem State.hcTest_hc : (s.hc k x y).1.hcTest k x y = false := by
  cases h : s.hcTest k x y with
  | true =>
    rw [State.hc_of_change h]
    exact State.hcTest_storeCurrent
  | false =>
    rw [State.hc_of_no_change h]
    exact h

end

/-- HAS_CHANGED is HC of SAMPLED_KEYS and the axis ports (R147). -/
theorem exec_hasChanged_eq (s : State) :
    exec .hasChanged s = .next (s.hc s.sampledKeys s.inp.axisX s.inp.axisY).1 := rfl

/-- Settles O19, by the two outcomes of the change test. -/
theorem hasChangedComparesAndStores : Obligations.HasChangedComparesAndStores := by
  refine ⟨rfl, fun s => ⟨fun k x y => ⟨fun hchange => ?_, fun hno => ?_⟩, exec_hasChanged_eq s⟩⟩
  · exact State.hc_of_change ((State.hcTest_iff s k x y).mpr hchange)
  · exact State.hc_of_no_change (by rwa [← State.hcTest_iff, Bool.not_eq_true] at hno)

/-- Settles O20: HC leaves SAMPLED_KEYS and the ports alone, and after it their sample is no change. -/
theorem secondHasChangedReportsNothing : Obligations.SecondHasChangedReportsNothing := by
  intro s t h
  have ht : (s.hc s.sampledKeys s.inp.axisX s.inp.axisY).1 = t := Host.Outcome.next.inj h
  have hkeys : t.sampledKeys = s.sampledKeys := by rw [← ht, State.hc_sampledKeys]
  have hports : t.inp = s.inp := by rw [← ht, State.hc_inp]
  have hquiet : t.hcTest t.sampledKeys t.inp.axisX t.inp.axisY = false := by
    rw [hkeys, hports, ← ht]
    exact State.hcTest_hc ..
  rw [exec_hasChanged_eq, State.hc_of_no_change hquiet]
  rfl

/-! ### The second read -/

section
variable (s : State)

/-- The level the result takes is the level the button holds after the edge (R142). -/
theorem State.lvl_eq_tick (i : Fin 5) : s.lvl i = (s.tickButtons.get i).level := by
  rw [State.tickButtons_get, State.lvl, Button.tick]
  split_ifs <;> rfl

/-- A key's bit is 1 when the button's level is 0 (R142). -/
theorem State.secondReadKeys_getLsbD (i : Fin 5) : s.secondReadKeys.getLsbD i.val = !s.lvl i := by
  rw [State.secondReadKeys, PerButton.keys_getLsbD, PerButton.get_ofRule]

variable {s}

/-- The keys of a completed sample from the levels it takes. -/
theorem State.secondReadKeys_eq {keys : BitVec 5} (h : ∀ i : Fin 5, s.lvl i = !keys.getLsbD i.val) :
    s.secondReadKeys = keys := by
  apply BitVec.eq_of_getLsbD_eq
  intro i hi
  rw [State.secondReadKeys_getLsbD s ⟨i, hi⟩, h ⟨i, hi⟩, Bool.not_not]

/-! ### One edge of a sample -/

/-- In a state with no strobe up the strobe return changes nothing (R56). -/
theorem State.returnStrobes_of_quiet (htx : s.txStb = false) (hill : s.illegalStb = false) : s.returnStrobes = s :=
  State.ext rfl rfl rfl rfl rfl rfl rfl rfl rfl rfl rfl rfl rfl htx.symm hill.symm rfl rfl rfl rfl rfl rfl rfl rfl rfl

/-- An edge of a SAMPLE_BUTTONS in flight (R142): the buttons tick, and at the edge where none waits on the keys are stored
and the operation ends. -/
theorem step_of_sbWait (hl : s.par.legal = true) (hr : s.inp.rst = false) (hq : s.seq = .sbWait) :
    step s = .next (if s.sampleDone = false then s.returnStrobes.setDbn s.tickButtons
      else ((s.returnStrobes.setDbn s.tickButtons).setSampled s.secondReadKeys).setSeq .idle).finishEdge := by
  have hbusy : s.returnStrobes.sequencerStep = s.returnStrobes.debounceStep := by
    rw [State.sequencerStep, State.returnStrobes_seq, hq]
  rw [step_of_busy hl hr (by simp [hq]), hbusy, State.debounceStep_eq]
  simp [hq]

/-- What an edge of a sample in flight does to a button: at rest it stays, at count 1 it is read again, at any other count
it counts down (R142). -/
theorem State.tickButtons_cases (hs : s.dbnInFlight) (i : Fin 5) :
    ((s.dbn.get i).phase = .idle → s.tickButtons.get i = s.dbn.get i) ∧
      ((s.dbn.get i).phase = .wait → (s.dbn.get i).count = 1 →
        s.tickButtons.get i = { level := s.inp.btnRaw.getLsbD i.val, phase := .idle, count := 0 }) ∧
      ((s.dbn.get i).phase = .wait → (s.dbn.get i).count ≠ 1 →
        s.tickButtons.get i = { level := false, phase := .wait, count := (s.dbn.get i).count - 1 }) := by
  rw [State.tickButtons_get]
  refine ⟨fun hp => Button.tick_of_idle _ _ hp, fun hp h1 => Button.tick_of_secondRead _ _ hp h1, fun hp hne => ?_⟩
  obtain ⟨c, hc1, hcn, -, hall⟩ := hs
  obtain ⟨hcount, hlevel⟩ := (hall i).1 hp
  have hfit : (s.dbn.get i).count < 2 ^ s.par.dbnW := hcount ▸ hcn.trans_lt s.par.debounceCycles_lt
  rw [Button.tick_of_waiting _ hp (by omega) hfit, ← hlevel, ← hp]

end

/-- Settles O17: the buttons after the edge are the ticked ones, and the sample is done exactly when none waits on. -/
theorem debounceEdge : Obligations.DebounceEdge := by
  intro s hinv hr hq
  have hsampling : s.sampling := .inl hq
  obtain ⟨htx, hill⟩ := hinv.quietWait hsampling
  have hflight := hinv.inFlight hsampling
  have hstep := step_of_sbWait hinv.legal hr hq
  rw [State.returnStrobes_of_quiet htx hill, State.finishEdge_eq] at hstep
  have hticks (i : Fin 5) := State.tickButtons_cases hflight i
  have hdone := State.sampleDone_iff s
  cases hd : s.sampleDone with
  | false =>
    rw [hd, if_pos rfl] at hstep
    have hwaits : ¬ ∀ i, ¬ ((s.dbn.get i).phase = .wait ∧ 1 < (s.dbn.get i).count) :=
      fun hno => by simp [hdone.mpr hno] at hd
    refine ⟨s.tickButtons, .sbWait, s.sampledKeys, ?_, hticks, fun _ => ⟨rfl, rfl⟩, fun hno => absurd hno hwaits⟩
    rw [hstep, ← State.timedOut_or_expired, ← hq]
    rfl
  | true =>
    rw [hd, if_neg (by simp)] at hstep
    refine ⟨s.tickButtons, .idle, s.secondReadKeys, ?_, hticks, fun ⟨i, hi⟩ => absurd hi (hdone.mp hd i),
      fun _ => ⟨rfl, fun i => ?_⟩⟩
    · rw [hstep, ← State.timedOut_or_expired]
      rfl
    · rw [State.secondReadKeys_getLsbD, State.lvl_eq_tick]

/-! ### A sample from its first read to its last -/

/-- Some button reads pressed when not every level is 1 (R35). -/
theorem exists_pressed : ∀ b : BitVec 5, b ≠ 0b11111#5 → ∃ i : Fin 5, b.getLsbD i.val = false := by decide

/-- The debounce state of a sample whose first read saw `b`, with `c` cycles left: a button that read released rests, a
pressed one waits at count `c` (R47, R140). -/
def State.SampledWith (s : State) (b : BitVec 5) (c : Nat) : Prop :=
  ∀ i : Fin 5, s.dbn.get i = Button.firstRead c (b.getLsbD i.val)

section
variable {s : State} {b : BitVec 5} {c : Nat}

/-- The first reads start a sample with DEBOUNCE_CYCLES left (R141). -/
theorem State.firstReads_sampledWith (s : State) :
    (s.setDbn s.firstReads).SampledWith s.inp.btnRaw s.par.debounceCycles := fun i => State.firstReads_get s i

/-- A sample is a matter of the debounce state alone. -/
theorem State.SampledWith.congr {u : State} (h : s.SampledWith b c) (hu : u.dbn = s.dbn) : u.SampledWith b c := by
  rwa [State.SampledWith, hu]

/-- With more than one cycle left a sample that saw a press waits on (R142). -/
theorem State.SampledWith.not_done (h : s.SampledWith b c) (hb : b ≠ 0b11111#5) (hc : 1 < c) :
    s.sampleDone = false := by
  obtain ⟨i, hi⟩ := exists_pressed b hb
  rw [← Bool.not_eq_true, State.sampleDone_iff]
  intro hno
  refine hno i ?_
  rw [h i, hi]
  exact ⟨rfl, hc⟩

/-- With one cycle left a sample is done (R142). -/
theorem State.SampledWith.done (h : s.SampledWith b 1) : s.sampleDone = true := by
  rw [State.sampleDone_iff]
  intro i ⟨_, hcount⟩
  rw [h i, Button.firstRead_eq] at hcount
  split at hcount <;> simp at hcount

/-- An edge with more than one cycle left takes one of them (R142). -/
theorem State.SampledWith.tick (h : s.SampledWith b c) (hc : 1 < c) (hfit : c ≤ s.par.debounceCycles) :
    (s.setDbn s.tickButtons).SampledWith b (c - 1) := by
  intro i
  rw [State.setDbn_dbn, State.tickButtons_get, h i]
  cases b.getLsbD i.val with
  | true => exact Button.tick_of_idle _ _ rfl
  | false => exact Button.tick_of_waiting _ rfl hc (hfit.trans_lt s.par.debounceCycles_lt)

/-- The last edge of a sample reads the waiting buttons again, and all rest (R142, R144). -/
theorem State.SampledWith.tick_last (h : s.SampledWith b 1) (i : Fin 5) :
    s.tickButtons.get i =
      { level := if b.getLsbD i.val then true else s.inp.btnRaw.getLsbD i.val, phase := .idle, count := 0 } := by
  rw [State.tickButtons_get, h i]
  cases b.getLsbD i.val with
  | true => exact Button.tick_of_idle _ _ rfl
  | false => exact Button.tick_of_secondRead _ _ rfl rfl

/-- A key is accepted exactly when both reads saw its button pressed (R142). -/
theorem State.SampledWith.keys (h : s.SampledWith b 1) : s.secondReadKeys = ~~~b &&& ~~~s.inp.btnRaw := by
  apply State.secondReadKeys_eq
  intro i
  rw [State.lvl_eq_tick, h.tick_last i]
  cases hi : b.getLsbD i.val <;> simp [BitVec.getLsbD_and, BitVec.getLsbD_not, i.isLt, hi, -BitVec.getLsbD_eq_getElem]

end

/-- A SAMPLE_BUTTONS accepted with a button pressed waits with DEBOUNCE_CYCLES left and its keys not yet written (R141). -/
theorem step_of_samplePressed {s t : State} (h : step s = .next t) (hr : s.inp.rst = false) (hq : s.seq = .idle)
    (hv : s.inp.opValid = true) (ho : s.inp.op = 0x1#4) (hb : s.inp.btnRaw ≠ 0b11111#5) :
    t.seq = .sbWait ∧ t.sampledKeys = s.sampledKeys ∧ t.SampledWith s.inp.btnRaw s.par.debounceCycles := by
  obtain ⟨hl, -⟩ := step_cases h
  have hi : s.offered = .sampleButtons := congrArg decodeCommand ho
  rw [step_of_accepted hl hr hq hv, hi, exec_sampleButtons_eq, State.returnStrobes_inp, if_neg hb] at h
  obtain rfl := Host.Outcome.next.inj h
  refine ⟨by simp, by simp, (State.firstReads_sampledWith s).congr (by simp)⟩

/-- Over the cycles of a SAMPLE_BUTTONS that waits, the sequencer and the old keys stay while the count runs down (R142,
R143). -/
theorem Runs.sample_waits {σ : Nat → State} {d : Nat} {b : BitVec 5} (hrun : Runs σ (d + 1))
    (hrst : ∀ k, k ≤ d → (σ k).inp.rst = false) (hb : b ≠ 0b11111#5)
    (hfirst : (σ 1).seq = .sbWait ∧ (σ 1).SampledWith b d ∧ (σ 1).par.debounceCycles = d) :
    ∀ k, 1 ≤ k → k ≤ d →
      (σ k).seq = .sbWait ∧ (σ k).SampledWith b (d + 1 - k) ∧ (σ k).par.debounceCycles = d ∧
        (σ k).sampledKeys = (σ 1).sampledKeys := by
  intro k hk1
  induction k, hk1 using Nat.le_induction with
  | base =>
    obtain ⟨hseq, hsample, hpar⟩ := hfirst
    exact fun _ => ⟨hseq, hsample, hpar, rfl⟩
  | succ k hk1 ih =>
    intro hkd
    obtain ⟨hseq, hsample, hpar, hkeys⟩ := ih (by omega)
    have hstep := hrun k (by omega)
    obtain ⟨hl, -⟩ := step_cases hstep
    have hleft : 1 < d + 1 - k := by omega
    rw [step_of_sbWait hl (hrst k (by omega)) hseq, if_pos (hsample.not_done hb hleft)] at hstep
    rw [← Host.Outcome.next.inj hstep]
    have htick := hsample.tick hleft (by omega)
    rw [show d + 1 - k - 1 = d + 1 - (k + 1) by omega] at htick
    exact ⟨by simpa using hseq, htick.congr (by simp), by simpa using hpar, by simpa using hkeys⟩

/-- Settles O18: the accepting edge starts the sample, the edges between count it down, and the last reads it again. -/
theorem sampleKeepsWhatBothReadsSaw : Obligations.SampleKeepsWhatBothReadsSaw := by
  intro σ d hd hrun hrst hq hv ho hb
  have hstep0 := hrun 0 (by omega)
  obtain ⟨hl0, -⟩ := step_cases hstep0
  obtain ⟨hseq1, hkeys1, hsample1⟩ := step_of_samplePressed hstep0 (hrst 0 (by omega)) hq hv ho hb
  obtain ⟨hpar1 : (σ 1).par = (σ 0).par, -⟩ := ports_of_step hstep0
  obtain ⟨-, hd1, -⟩ := (Params.legal_iff _).mp hl0
  have hwaits := hrun.sample_waits hrst hb ⟨hseq1, hd ▸ hsample1, by rw [hpar1, hd]⟩
  obtain ⟨hseq, hsample, -, -⟩ := hwaits d (by omega) le_rfl
  rw [Nat.add_sub_cancel_left] at hsample
  have hstep := hrun d (by omega)
  obtain ⟨hl, -⟩ := step_cases hstep
  rw [step_of_sbWait hl (hrst d le_rfl) hseq, if_neg (by simp [hsample.done])] at hstep
  rw [← Host.Outcome.next.inj hstep]
  refine ⟨fun k hk1 hkd => ?_, by simp [State.outputs, State.ready], by simpa using hsample.keys, fun i => ?_⟩
  · obtain ⟨hseqk, -, -, hkeysk⟩ := hwaits k hk1 hkd
    exact ⟨by simp [State.outputs, State.ready, hseqk], hkeysk.trans hkeys1⟩
  · simpa using hsample.tick_last i

/-! ### Ticks on inputs that stay -/

/-- After a completed tick the sample it took is no change (R148). -/
theorem State.hcTest_ttComplete (v : State) (k : BitVec 5) :
    (v.ttComplete k).hcTest k v.inp.axisX v.inp.axisY = false := by
  rw [← State.hcTest_hc v k v.inp.axisX v.inp.axisY]
  apply State.hcTest_congr <;> rw [State.ttComplete_eq, State.hc_eq]

/-- A tick whose sample is no change keeps what is stored and sends at most the Keepalive (R201). -/
theorem State.ttComplete_of_no_change {v : State} {k : BitVec 5} (d : PerButton Button)
    (h : v.hcTest k v.inp.axisX v.inp.axisY = false) :
    ((v.setDbn d).setSampled k).ttComplete k =
      { v with
          dbn := d
          sampledKeys := k
          changed := false
          kaCnt := if v.kaDue then 0 else v.kaCnt + 1
          frameOut := if v.kaDue then encK v.par.kaPreamble else v.frameOut
          txStb := v.kaDue || v.txStb
          seq := .idle } := by
  have hquiet : ((v.setDbn d).setSampled k).hcTest k v.inp.axisX v.inp.axisY = false := h
  rw [State.ttComplete_eq, State.setSampled_inp, State.setDbn_inp, hquiet]
  rfl

/-- The edge that completes a tick runs TT_COMPLETE with the keys of its sample, none with no button pressed (R200, R201). -/
theorem step_of_completesTick {s t : State} (h : step s = .next t) (hr : s.inp.rst = false)
    (hc : s.completesTick = true) :
    ∃ d k, t = (((s.returnStrobes.setDbn d).setSampled k).ttComplete k).finishEdge ∧
      ((s.inp.btnRaw = 0b11111#5 ∧ k = 0#5) ∨ (s.seq = .ttWait ∧ k = s.secondReadKeys)) := by
  obtain ⟨u, hw, rfl⟩ := EdgeWrites.of_step h hr
  rw [State.completesTick_iff hr] at hc
  cases hw with
  | tickReleased _ _ hb => exact ⟨_, _, rfl, .inl ⟨hb, rfl⟩⟩
  | tickEnds hq => exact ⟨_, _, rfl, .inr ⟨hq, rfl⟩⟩
  | tickPressed hq _ hb => simp [hq, hb] at hc
  | reserved hq i ha hi =>
    simp only [hq, ha] at hc
    obtain ⟨hi', -⟩ | ⟨hq', -⟩ := hc
    · cases hi'
      cases hi
    · cases hq'
  | waitOn _ ha hd => simp [ha, hd] at hc
  | sampleEnds hq ha => simp [hq, ha] at hc
  | slot hq ha => simp [hq, ha] at hc
  | _ => simp [‹s.seq = .idle›, ‹s.accepted = _›] at hc

/-- This edge is no reset edge, with the buttons, the axes and the thresholds as in `p`. -/
structure State.Holds (s : State) (p : Inputs) : Prop where
  rst : s.inp.rst = false
  btnRaw : s.inp.btnRaw = p.btnRaw
  axisX : s.inp.axisX = p.axisX
  axisY : s.inp.axisY = p.axisY
  thrX : s.inp.thrX = p.thrX
  thrY : s.inp.thrY = p.thrY

/-- A sample in flight has read the levels of `p` so far (R47). -/
def State.ReadsOf (s : State) (p : Inputs) : Prop :=
  s.sampling → ∀ i : Fin 5, (s.dbn.get i).level = p.btnRaw.getLsbD i.val

/-- A sample of `p` is no change from what is stored, at the thresholds of `p`, and SAMPLED_KEYS holds its keys. -/
structure State.Settled (s : State) (p : Inputs) : Prop where
  sampled : s.sampledKeys = ~~~p.btnRaw
  noChange : ({ s with inp := p } : State).hcTest (~~~p.btnRaw) p.axisX p.axisY = false

/-- The same stored sample (R49). -/
structure State.SameStored (u s : State) : Prop where
  valid : u.curValid = s.curValid
  keys : u.curKeys = s.curKeys
  x : u.curX = s.curX
  y : u.curY = s.curY

/-- The end of an edge leaves the stored sample alone. -/
theorem State.SameStored.finishEdge {u s : State} (h : u.SameStored s) : u.finishEdge.SameStored s :=
  ⟨by simpa using h.valid, by simpa using h.keys, by simpa using h.x, by simpa using h.y⟩

/-- Two edges that keep the stored sample keep it together. -/
theorem State.SameStored.trans {u v s : State} (h : u.SameStored v) (h' : v.SameStored s) : u.SameStored s :=
  ⟨h.valid.trans h'.valid, h.keys.trans h'.keys, h.x.trans h'.x, h.y.trans h'.y⟩

section
variable {s u : State} {p : Inputs}

/-- With the inputs held, the change test of a settled sample fails (R146). -/
theorem State.Settled.hcTest (hset : s.Settled p) (hp : s.Holds p) :
    s.hcTest (~~~p.btnRaw) s.inp.axisX s.inp.axisY = false := by
  rw [hp.axisX, hp.axisY, ← hset.noChange]
  exact State.hcTest_congr rfl rfl rfl rfl hp.thrX hp.thrY

/-- The completion of a tick on settled inputs keeps what is stored (R148). -/
theorem State.Settled.ttComplete_sameStored (hset : s.Settled p) (hp : s.Holds p) (d : PerButton Button) :
    (((s.returnStrobes.setDbn d).setSampled (~~~p.btnRaw)).ttComplete (~~~p.btnRaw)).SameStored s := by
  rw [State.ttComplete_of_no_change (v := s.returnStrobes) d (hset.hcTest hp)]
  exact ⟨rfl, rfl, rfl, rfl⟩

/-- With the buttons held, the second reads are the first ones, so the keys are those of the held levels (R142). -/
theorem State.Holds.secondReadKeys (h : s.Holds p) (hreads : s.ReadsOf p) (hs : s.sampling) :
    s.secondReadKeys = ~~~p.btnRaw := by
  apply State.secondReadKeys_eq
  intro i
  have hraw : s.rawLevel i = p.btnRaw.getLsbD i.val := by rw [State.rawLevel, h.btnRaw]
  rw [State.lvl, hraw, hreads hs i, BitVec.getLsbD_not]
  simp

/-- What is settled depends on the stored sample and SAMPLED_KEYS. -/
theorem State.Settled.congr (h : s.Settled p) (hk : u.sampledKeys = ~~~p.btnRaw) (hu : u.SameStored s) : u.Settled p := by
  refine ⟨hk, ?_⟩
  rw [← h.noChange]
  exact State.hcTest_congr hu.valid hu.keys hu.x hu.y rfl rfl

/-- No sample in flight, nothing read so far. -/
theorem State.ReadsOf.of_idle (hq : s.seq = .idle) : s.ReadsOf p := fun hs => absurd hs (State.not_sampling_of_idle hq)

/-- With the buttons held, every level a sample in flight holds is a held one (R47, R141, R142). -/
theorem EdgeWrites.readsOf (h : EdgeWrites s u) (hp : s.Holds p) (hreads : s.ReadsOf p) : u.ReadsOf p := by
  have hraw (i : Fin 5) : s.rawLevel i = p.btnRaw.getLsbD i.val := by rw [State.rawLevel, hp.btnRaw]
  have hfirst (i : Fin 5) : (s.firstReads.get i).level = p.btnRaw.getLsbD i.val := by
    rw [State.firstReads_get, ← hraw i, Button.firstRead]
    split <;> rfl
  cases h with
  | samplePressed => exact fun _ => hfirst
  | tickPressed => exact fun _ => hfirst
  | waitOn hs =>
    intro _ i
    rw [State.setDbn_dbn, ← State.lvl_eq_tick, State.lvl, hraw i, hreads hs i, ite_self]
  | tickReleased => exact fun hs => absurd hs (State.ttComplete_not_sampling _ _)
  | tickEnds => exact fun hs => absurd hs (State.ttComplete_not_sampling _ _)
  | sampleEnds => exact .of_idle rfl
  | slot => exact .of_idle rfl
  | _ => exact .of_idle (by simpa using ‹s.seq = .idle›)

/-- With no button pressed in `p`, the keys of `p` are 0 (R141). -/
theorem State.Holds.no_keys (hp : s.Holds p) (hb : s.inp.btnRaw = 0b11111#5) : 0#5 = ~~~p.btnRaw := by
  rw [← hp.btnRaw, hb]
  rfl

/-- With the inputs held, the keys of every sample that completes are those of the held levels (R142). -/
theorem EdgeWrites.sampledKeys_of_held (h : EdgeWrites s u) (hp : s.Holds p) (hreads : s.ReadsOf p) :
    u.sampledKeys = s.sampledKeys ∨ u.sampledKeys = ~~~p.btnRaw := by
  cases h with
  | sampleReleased _ _ hb => exact .inr (hp.no_keys hb)
  | sampleEnds hq => exact .inr (hp.secondReadKeys hreads (.inl hq))
  | tickReleased _ _ hb => exact .inr (by simpa using hp.no_keys hb)
  | tickEnds hq => exact .inr (by simpa using hp.secondReadKeys hreads (.inr hq))
  | _ => exact .inl (by simp)

/-- The tick that completes with the inputs held, as TT_COMPLETE of their keys (R201). -/
theorem step_of_heldTick {t : State} (h : step s = .next t) (hp : s.Holds p) (hreads : s.ReadsOf p)
    (hc : s.completesTick = true) :
    ∃ d, t = (((s.returnStrobes.setDbn d).setSampled (~~~p.btnRaw)).ttComplete (~~~p.btnRaw)).finishEdge := by
  obtain ⟨d, k, ht, ⟨hb, rfl⟩ | ⟨hq, rfl⟩⟩ := step_of_completesTick h hp.rst hc
  · exact ⟨d, hp.no_keys hb ▸ ht⟩
  · exact ⟨d, hp.secondReadKeys hreads (.inr hq) ▸ ht⟩

/-- A tick that completes with the inputs held settles them (R148). -/
theorem State.Settled.of_tick {t : State} (h : step s = .next t) (hp : s.Holds p) (hreads : s.ReadsOf p)
    (hc : s.completesTick = true) : t.Settled p := by
  obtain ⟨d, rfl⟩ := step_of_heldTick h hp hreads hc
  refine ⟨by simp, ?_⟩
  have hquiet := State.hcTest_ttComplete ((s.returnStrobes.setDbn d).setSampled (~~~p.btnRaw)) (~~~p.btnRaw)
  rw [← hquiet, ← hp.axisX, ← hp.axisY, State.finishEdge_eq]
  exact State.hcTest_congr rfl rfl rfl rfl (by simpa using hp.thrX.symm) (by simpa using hp.thrY.symm)

/-- On settled inputs a tick that completes finds no change and sends at most the Keepalive (R95, R201). -/
theorem State.Settled.tick {t : State} (hset : s.Settled p) (h : step s = .next t) (hp : s.Holds p)
    (hreads : s.ReadsOf p) (hc : s.completesTick = true) :
    t.changed = false ∧ t.SameStored s ∧ t.frameOut = (if s.kaDue then encK t.par.kaPreamble else s.frameOut) ∧
      t.txStb = s.kaDue ∧ t.seq = .idle := by
  obtain ⟨d, rfl⟩ := step_of_heldTick h hp hreads hc
  have hstored := (hset.ttComplete_sameStored hp d).finishEdge
  rw [State.ttComplete_of_no_change (v := s.returnStrobes) d (hset.hcTest hp), State.finishEdge_eq] at hstored ⊢
  exact ⟨rfl, hstored, rfl, by simp, rfl⟩

/-- No edge with the inputs held moves a settled sample: HAS_CHANGED finds no change, nor does a tick (R148, R150). -/
theorem EdgeWrites.sameStored_of_settled (h : EdgeWrites s u) (hset : s.Settled p) (hp : s.Holds p)
    (hreads : s.ReadsOf p) : u.SameStored s := by
  cases h with
  | changeStored _ _ ht => simp [hset.sampled, hset.hcTest hp] at ht
  | tickReleased _ _ hb =>
    rw [hp.no_keys hb]
    exact hset.ttComplete_sameStored hp _
  | tickEnds hq =>
    rw [hp.secondReadKeys hreads (.inr hq)]
    exact hset.ttComplete_sameStored hp _
  | _ => exact ⟨by simp, by simp, by simp, by simp⟩

/-- Settled inputs that are held stay settled. -/
theorem State.Settled.step {t : State} (hset : s.Settled p) (h : step s = .next t) (hp : s.Holds p)
    (hreads : s.ReadsOf p) : t.Settled p ∧ t.SameStored s := by
  obtain ⟨u, hw, rfl⟩ := EdgeWrites.of_step h hp.rst
  have hsame := (hw.sameStored_of_settled hset hp hreads).finishEdge
  have hkeys : u.sampledKeys = ~~~p.btnRaw :=
    (hw.sampledKeys_of_held hp hreads).elim (fun hk => hk.trans hset.sampled) id
  exact ⟨hset.congr (by simpa using hkeys) hsame, hsame⟩

/-- One more edge with the inputs held. -/
theorem State.ReadsOf.step {t : State} (hreads : s.ReadsOf p) (h : step s = .next t) (hp : s.Holds p) : t.ReadsOf p := by
  obtain ⟨u, hw, rfl⟩ := EdgeWrites.of_step h hp.rst
  have hu := hw.readsOf hp hreads
  simpa [State.ReadsOf, State.sampling] using hu

end

section
variable {σ : Nat → State} {n : Nat} {p : Inputs}

/-- Over a run from an idle block with the inputs held, every sample in flight has read the held levels. -/
theorem Runs.readsOf (hrun : Runs σ n) (hp : ∀ k, k < n → (σ k).Holds p) (hq : (σ 0).seq = .idle) :
    ∀ k, k ≤ n → (σ k).ReadsOf p := by
  intro k
  induction k with
  | zero => exact fun _ => .of_idle hq
  | succ k ih => exact fun hk => (ih (by omega)).step (hrun k hk) (hp k hk)

/-- Over a run with the inputs held, settled inputs stay settled and the stored sample stays. -/
theorem Runs.settled (hrun : Runs σ n) (hp : ∀ k, k < n → (σ k).Holds p) (hreads : ∀ k, k ≤ n → (σ k).ReadsOf p)
    {j : Nat} (hset : (σ j).Settled p) : ∀ k, j ≤ k → k ≤ n → (σ k).Settled p ∧ (σ k).SameStored (σ j) := by
  intro k hjk
  induction k, hjk using Nat.le_induction with
  | base => exact fun _ => ⟨hset, ⟨rfl, rfl, rfl, rfl⟩⟩
  | succ k _ ih =>
    intro hk
    obtain ⟨hsetk, hsame⟩ := ih (by omega)
    obtain ⟨hset', hsame'⟩ := hsetk.step (hrun k hk) (hp k hk) (hreads k (by omega))
    exact ⟨hset', hsame'.trans hsame⟩

end

/-- TX_TICK with no button pressed is TT_COMPLETE of no keys (R200). -/
theorem exec_txTick_of_released {s : State} (hb : s.inp.btnRaw = 0b11111#5) :
    exec .txTick s = .next (((s.setDbn s.firstReads).setSampled 0#5).ttComplete 0#5) := by
  change execTxTick s = _
  rw [execTxTick_eq, if_pos hb]

/-- Settles O42. With no button pressed both ticks take the same sample, so the second finds no change. Over a run the first
tick settles the held inputs, they stay settled up to the later tick, and that finds no change either. -/
theorem unchangedInputIsNotSentAgain : Obligations.UnchangedInputIsNotSentAgain := by
  refine ⟨fun s t u hb hst htu => ?_, fun σ n b x y tx ty hrun hq hheld j k hjk hk hcj hck => ?_⟩
  · rw [exec_txTick_of_released hb] at hst
    have ht := Host.Outcome.next.inj hst
    have hports : t.inp = s.inp := by simp [← ht]
    have hquiet : t.hcTest 0#5 t.inp.axisX t.inp.axisY = false := by
      rw [hports, ← ht]
      exact State.hcTest_ttComplete ..
    rw [exec_txTick_of_released (hports ▸ hb)] at htu
    rw [← Host.Outcome.next.inj htu, State.ttComplete_of_no_change _ hquiet]
    exact ⟨rfl, rfl, rfl, rfl, rfl, rfl, rfl⟩
  · obtain ⟨-, hbj, hxj, hyj, htxj, htyj⟩ := hheld j (by omega)
    have hp (m : Nat) (hm : m < n) : (σ m).Holds (σ j).inp := by
      obtain ⟨hr, hb, hx, hy, htx, hty⟩ := hheld m hm
      exact ⟨hr, hb.trans hbj.symm, hx.trans hxj.symm, hy.trans hyj.symm, htx.trans htxj.symm, hty.trans htyj.symm⟩
    have hreads := hrun.readsOf hp hq
    have hfirst := State.Settled.of_tick (hrun j (by omega)) (hp j (by omega)) (hreads j (by omega)) hcj
    obtain ⟨hset, hsame⟩ := hrun.settled hp hreads hfirst k hjk hk.le
    obtain ⟨hno, hstored, hframe, hstb, hseq⟩ := hset.tick (hrun k hk) (hp k hk) (hreads k hk.le) hck
    have hkept := hstored.trans hsame
    exact ⟨hno, hkept.keys, hkept.x, hkept.y, hframe, hstb, hseq⟩

/-! ### Edges that read no raw input -/

/-- `s` with the buttons, the axes, the thresholds and the keepalive interval as `q` has them, its other ports as they are. -/
def State.withRawOf (s : State) (q : Inputs) : State :=
  { s with inp := { s.inp with
      btnRaw := q.btnRaw
      axisX := q.axisX
      axisY := q.axisY
      thrX := q.thrX
      thrY := q.thrY
      kaInterval := q.kaInterval } }

section
variable (s : State) (q : Inputs)

/-- The three operations of the transmitter's inputs apart, no operation reads one of these ports (R145, R281). -/
theorem exec_withRawOf {i : Instr} (hsb : i ≠ .sampleButtons) (hhc : i ≠ .hasChanged) (htt : i ≠ .txTick) {t : State}
    (h : exec i s = .next t) : exec i (s.withRawOf q) = .next (t.withRawOf q) := by
  cases i with
  | sampleButtons => exact absurd rfl hsb
  | hasChanged => exact absurd rfl hhc
  | txTick => exact absurd rfl htt
  | decode =>
    have hreceived : (s.withRawOf q).received = s.received := rfl
    rw [exec_decode_eq] at h
    rw [← Host.Outcome.next.inj h, exec_decode_eq, hreceived]
    cases s.received <;> rfl
  | _ => rw [← Host.Outcome.next.inj h]; rfl

/-- A debounce edge that reads no button again and ends no sample reads none of these ports (R142, R143). -/
theorem State.debounceStep_withRawOf (hd : s.sampleDone = false) (h : ∀ i, (s.dbn.get i).atSecondRead = false) :
    (s.withRawOf q).debounceStep = s.debounceStep.withRawOf q := by
  have hdone : (s.withRawOf q).sampleDone = s.sampleDone := rfl
  have htick (i : Fin 5) (raw raw' : Bool) :
      (s.dbn.get i).tick s.par.dbnW raw = (s.dbn.get i).tick s.par.dbnW raw' := by
    simp [Button.tick, h i]
  have hbuttons : (s.withRawOf q).tickButtons = s.tickButtons :=
    congrArg PerButton.ofRule (funext fun i => htick i _ _)
  rw [State.debounceStep_eq, State.debounceStep_eq, hdone, hd, hbuttons]
  rfl

/-- A sequencer step that reads no button again and ends no sample reads none of these ports (R102, R203). -/
theorem State.sequencerStep_withRawOf
    (h : s.sampling → s.sampleDone = false ∧ ∀ i, (s.dbn.get i).atSecondRead = false) :
    (s.withRawOf q).sequencerStep = s.sequencerStep.withRawOf q := by
  unfold State.sequencerStep
  rw [show (s.withRawOf q).seq = s.seq from rfl]
  cases hq : s.seq with
  | idle => rfl
  | sbWait =>
    obtain ⟨hd, hfirst⟩ := h (.inl hq)
    exact State.debounceStep_withRawOf s q hd hfirst
  | ttWait =>
    obtain ⟨hd, hfirst⟩ := h (.inr hq)
    exact State.debounceStep_withRawOf s q hd hfirst
  | ttKa => rfl

/-- At the end of an edge these ports reach nothing but the ports of the next cycle (R223, log 4). -/
theorem State.finishEdge_withRawOf :
    (s.withRawOf q).finishEdge = { s.finishEdge with inp := (s.withRawOf q).finishEdge.inp } := by
  rw [State.finishEdge_eq, State.finishEdge_eq]
  rfl

end

/-- With other values on these ports, an edge that none of their rules is at steps to the same registers (R145, R281). -/
theorem step_withRawOf {s t : State} (q : Inputs) (hsb : s.accepted ≠ some .sampleButtons)
    (hhc : s.accepted ≠ some .hasChanged) (htt : s.accepted ≠ some .txTick)
    (hs : s.sampling → s.sampleDone = false ∧ ∀ i : Fin 5, (s.dbn.get i).atSecondRead = false)
    (h : step s = .next t) : ∃ p, step (s.withRawOf q) = .next { t with inp := p } := by
  obtain ⟨hl, ⟨hr, rfl⟩ | ⟨hr, hq, rfl⟩ | ⟨hr, hq, hv, u, hu, rfl⟩ | ⟨hr, hq, hv, rfl⟩⟩ := step_cases h
  · exact ⟨_, step_of_reset (s := s.withRawOf q) hl hr⟩
  · have hstep : step (s.withRawOf q) = .next (s.returnStrobes.withRawOf q).sequencerStep.finishEdge :=
      step_of_busy (s := s.withRawOf q) hl hr hq
    rw [State.sequencerStep_withRawOf s.returnStrobes q hs, State.finishEdge_withRawOf] at hstep
    exact ⟨_, hstep⟩
  · have ha := State.accepted_of_offer hr hq hv
    rw [ha, Ne, Option.some_inj] at hsb hhc htt
    have hstep : step (s.withRawOf q) = afterOperation (exec s.offered (s.returnStrobes.withRawOf q)) :=
      step_of_accepted (s := s.withRawOf q) hl hr hq hv
    rw [exec_withRawOf _ q hsb hhc htt hu, afterOperation, State.finishEdge_withRawOf] at hstep
    exact ⟨_, hstep⟩
  · have hstep : step (s.withRawOf q) = .next (s.returnStrobes.withRawOf q).finishEdge :=
      step_of_no_offer (s := s.withRawOf q) hl hr hq hv
    rw [State.finishEdge_withRawOf] at hstep
    exact ⟨_, hstep⟩

/-- Settles O53: every edge the premises leave reads none of these ports, whatever values they hold. -/
theorem rawInputsAreReadOnlyAtTheirEdges : Obligations.RawInputsAreReadOnlyAtTheirEdges := by
  intro s t b x y tx ty iv hsb hhc htt hs h
  exact step_withRawOf
    { s.inp with btnRaw := b, axisX := x, axisY := y, thrX := tx, thrY := ty, kaInterval := iv } hsb hhc htt hs h

end Machine

end Sys2Proof

/-!
PROOFS of the statements of spec/41_frame_codec.md: the checksum test is linear in the frame, so it tells exactly which
errors go unseen; the encoders' bytes, and what ENC_STATUS, ENC_KEEPALIVE, CHECKSUM and DECODE write.
-/

namespace Sys2Proof

/-! ### The fold of a frame's bytes -/

/-- One more byte joins the fold at its end. -/
theorem xorfold_firstBytes_succ (f : Frame) (n : Nat) :
    xorfold (firstBytes f (n + 1)) = xorfold (firstBytes f n) ^^^ byteOf f n := by
  rw [firstBytes, List.range_succ, List.map_append, xorfold_append, ← firstBytes]
  simp

/-- The XOR of two frames is taken byte by byte. -/
@[simp] theorem byteOf_xor (f e : Frame) (k : Nat) : byteOf (f ^^^ e) k = byteOf f k ^^^ byteOf e k :=
  BitVec.extractLsb'_xor

/-- The fold is linear (R180). -/
theorem xorfold_firstBytes_xor (f e : Frame) (n : Nat) :
    xorfold (firstBytes (f ^^^ e) n) = xorfold (firstBytes f n) ^^^ xorfold (firstBytes e n) := by
  induction n with
  | zero => simp [firstBytes]
  | succ n ih =>
    simp only [xorfold_firstBytes_succ, ih, byteOf_xor]
    ac_rfl

/-- Bytes that are all 0 fold to 0. -/
theorem xorfold_firstBytes_of_zero {e : Frame} {n : Nat} (h : ∀ j, j < n → byteOf e j = 0#8) :
    xorfold (firstBytes e n) = 0#8 := by
  induction n with
  | zero => rfl
  | succ n ih => rw [xorfold_firstBytes_succ, ih fun j hj => h j (by omega), h n (by omega), BitVec.xor_self]

/-- Where one byte alone is not 0 the fold is that byte (R180). -/
theorem xorfold_firstBytes_of_single {e : Frame} {n k : Nat} (hk : k < n)
    (h : ∀ j, j < n → j ≠ k → byteOf e j = 0#8) : xorfold (firstBytes e n) = byteOf e k := by
  induction n with
  | zero => omega
  | succ n ih =>
    rw [xorfold_firstBytes_succ]
    obtain rfl | hlt := Nat.eq_or_lt_of_le (Nat.le_of_lt_succ hk)
    · rw [xorfold_firstBytes_of_zero fun j hj => h j (by omega) (by omega), BitVec.zero_xor]
    · rw [ih hlt fun j hj => h j (by omega), h n (by omega) (by omega), BitVec.xor_zero]

/-- `cks6` byte by byte (R170). -/
theorem cks6_eq_xor_bytes (f : Frame) :
    cks6 f = byteOf f 0 ^^^ byteOf f 1 ^^^ byteOf f 2 ^^^ byteOf f 3 ^^^ byteOf f 4 ^^^ byteOf f 5 := by
  simp only [cks6, firstBytes_six, xorfold_cons, xorfold_nil, BitVec.xor_zero, BitVec.xor_assoc]

/-! ### The checksum test and the errors it sees -/

/-- Settles O30: the seventh byte cancels the fold of the other six exactly when it equals it. -/
theorem checksumTestIsTheSevenByteFold : Obligations.ChecksumTestIsTheSevenByteFold := by
  intro f
  rw [xorfold_firstBytes_succ, ← cks6, xor_eq_zero_iff_eq]

/-- Settles O31: the frame folds to 0, so the damaged frame folds to what the error pattern folds to. -/
theorem undetectedErrorPatterns : Obligations.UndetectedErrorPatterns := by
  intro f e hf
  have hfold := (checksumTestIsTheSevenByteFold f).mp hf
  rw [checksumTestIsTheSevenByteFold, xorfold_firstBytes_xor, hfold, BitVec.zero_xor]

/-- Settles O33: the fold of all seven bytes does not see their order. -/
theorem reorderingIsNotDetected : Obligations.ReorderingIsNotDetected := by
  intro f g hperm hf
  rw [checksumTestIsTheSevenByteFold] at hf ⊢
  rw [xorfold_perm hperm, hf]

/-- A frame of length 7 that fails the checksum test (R177). -/
theorem dec_of_checksum_ne {kaPre : Byte} {f : Frame} (hsum : cks6 f ≠ byteOf f 6) :
    dec kaPre Config.frameLen f = .checksumError := by
  simp [dec, hsum]

/-- An error in exactly one byte is detected (R180). -/
theorem dec_of_one_byte_error {kaPre : Byte} {f e : Frame} {k : Nat} (hf : cks6 f = byteOf f 6) (hk : k < 7)
    (hne : byteOf e k ≠ 0#8) (hzero : ∀ j, j < 7 → j ≠ k → byteOf e j = 0#8) :
    dec kaPre Config.frameLen (f ^^^ e) = .checksumError := by
  refine dec_of_checksum_ne fun hpass => hne ?_
  rw [← xorfold_firstBytes_of_single hk hzero]
  exact (undetectedErrorPatterns f e hf).mp hpass

/-- Where the one bit of a single-bit pattern lies: byte `k` holds bits `48 - 8k` to `55 - 8k` (R17). -/
theorem getLsbD_byteOf_twoPow (i k j : Nat) :
    (byteOf (BitVec.twoPow 56 i) k).getLsbD j =
      (decide (j < 8) && (decide (i < 56) && decide (i = 48 - 8 * k + j))) := by
  rw [byteOf, BitVec.getLsbD_extractLsb', BitVec.getLsbD_twoPow]

/-- A single-bit pattern is not 0 in the byte of its bit. -/
theorem byteOf_twoPow_ne_zero {i : Nat} (hi : i < 56) : byteOf (BitVec.twoPow 56 i) (6 - i / 8) ≠ 0#8 := by
  intro h
  have hbit := getLsbD_byteOf_twoPow i (6 - i / 8) (i % 8)
  rw [h, BitVec.getLsbD_zero, decide_eq_true (by omega), decide_eq_true hi, decide_eq_true (by omega)] at hbit
  cases hbit

/-- A single-bit pattern is 0 in every other byte. -/
theorem byteOf_twoPow_eq_zero {i k : Nat} (hk : k < 7) (hne : k ≠ 6 - i / 8) :
    byteOf (BitVec.twoPow 56 i) k = 0#8 := by
  apply BitVec.eq_of_getLsbD_eq
  intro j hj
  rw [getLsbD_byteOf_twoPow, decide_eq_false (p := i = 48 - 8 * k + j) (by omega)]
  simp

/-- Settles O32: a pattern confined to one byte folds to that byte, and a flipped bit is such a pattern. -/
theorem oneByteErrorsAreDetected : Obligations.OneByteErrorsAreDetected := by
  intro kaPre f hf
  refine ⟨fun e k hk hne hzero => dec_of_one_byte_error hf hk hne hzero, fun i hi => ?_⟩
  exact dec_of_one_byte_error hf (by omega) (byteOf_twoPow_ne_zero hi) fun j hj => byteOf_twoPow_eq_zero hj

/-! ### The encoders -/

/-- The decoder reads a Status frame's fields, widened, on every build (R109, R181). -/
theorem dec_encS (kaPre : Byte) (k : BitVec 5) (x y : BitVec 10) :
    dec kaPre Config.frameLen (encS k x y) = .status (k.setWidth 8) (x.setWidth 16) (y.setWidth 16) := by
  obtain ⟨-, -, hx⟩ := axisSplitAndJoin x
  obtain ⟨-, -, hy⟩ := axisSplitAndJoin y
  rw [encS, dec_of_status (cks6_sealFrame ..) (byteOf_sealFrame_0 ..)]
  simp only [byteOf_sealFrame_1, byteOf_sealFrame_2, byteOf_sealFrame_3, byteOf_sealFrame_4, byteOf_sealFrame_5, hx, hy]

/-- The decoder reads this build's Keepalive, when its preamble is not the Status preamble (R5, R181). -/
theorem dec_encK {kaPre : Byte} (hpre : kaPre ≠ Config.stPreamble) :
    dec kaPre Config.frameLen (encK kaPre) = .keepalive := by
  have h0 : byteOf (encK kaPre) 0 = kaPre := byteOf_sealFrame_0 ..
  exact dec_of_keepalive (cks6_sealFrame ..) (by rwa [h0]) h0

/-- Widening loses no value. -/
theorem setWidth_injective {v w : Nat} (h : v ≤ w) : Function.Injective (BitVec.setWidth w : BitVec v → BitVec w) :=
  Function.LeftInverse.injective (g := BitVec.setWidth v) fun a => by
    rw [BitVec.setWidth_setWidth_of_le a h, BitVec.setWidth_eq]

/-- Equal Status frames decode to equal fields, so they carry equal InputStates (R181). -/
theorem encS_injective {k k' : BitVec 5} {x x' y y' : BitVec 10} (h : encS k x y = encS k' x' y') :
    k = k' ∧ x = x' ∧ y = y' := by
  have hdec := congrArg (dec 0#8 Config.frameLen) h
  rw [dec_encS, dec_encS] at hdec
  obtain ⟨hk, hx, hy⟩ := FrameClass.status.inj hdec
  exact ⟨setWidth_injective (by decide) hk, setWidth_injective (by decide) hx, setWidth_injective (by decide) hy⟩

/-- Settles O29: the decoder reads back each encoder's frame, and what it reads tells the InputStates apart. -/
theorem codecRoundTrip : Obligations.CodecRoundTrip :=
  fun kaPre hpre => ⟨dec_encS kaPre, dec_encK hpre, fun _ _ _ _ _ _ => encS_injective⟩

/-- A sealed frame's last byte is the XOR of the other six (R107, R170). -/
theorem byteOf_sealFrame_6 (b0 b1 b2 b3 b4 b5 : Byte) :
    byteOf (sealFrame b0 b1 b2 b3 b4 b5) 6 = b0 ^^^ b1 ^^^ b2 ^^^ b3 ^^^ b4 ^^^ b5 := by
  rw [← cks6_sealFrame, cks6_eq_xor_bytes]
  simp

/-- The Keepalive's checksum: its payload folds to 0xAA (R175). -/
theorem byteOf_encK_6 (pre : Byte) : byteOf (encK pre) 6 = pre ^^^ 0xAA#8 := by
  rw [encK, byteOf_sealFrame_6]
  simp only [BitVec.xor_assoc]
  rfl

namespace Machine

/-! ### ENC_STATUS and ENC_KEEPALIVE -/

/-- Settles O21: the bytes are those of the sealed frame, and the operation is one send. -/
theorem encStatusSendsTheArgumentFrame : Obligations.EncStatusSendsTheArgumentFrame := by
  refine ⟨fun keys x y => ?_, rfl, fun s => rfl⟩
  refine ⟨byteOf_sealFrame_0 .., byteOf_sealFrame_1 .., byteOf_sealFrame_2 .., byteOf_sealFrame_3 ..,
    byteOf_sealFrame_4 .., byteOf_sealFrame_5 .., ?_⟩
  exact (cks6_sealFrame ..).symm.trans (cks6_eq_xor_bytes _)

/-- Settles O22: the bytes are those of the sealed frame, and the operation is one send. -/
theorem encKeepaliveSendsTheKeepalive : Obligations.EncKeepaliveSendsTheKeepalive := by
  refine ⟨fun pre => ?_, by decide, rfl, fun s => rfl⟩
  refine ⟨byteOf_sealFrame_0 .., byteOf_sealFrame_1 .., byteOf_sealFrame_2 .., byteOf_sealFrame_3 ..,
    byteOf_sealFrame_4 .., byteOf_sealFrame_5 .., ?_, byteOf_encK_6 pre⟩
  exact (cks6_sealFrame ..).symm.trans (cks6_eq_xor_bytes _)

/-! ### CHECKSUM -/

/-- Settles O23: CHECKSUM is one write. -/
theorem checksumFoldsTheReceivedBytes : Obligations.ChecksumFoldsTheReceivedBytes :=
  ⟨rfl, exec_checksum_eq⟩

/-- Settles O24: at each length the folded slice is known, and at 7 or more it is the whole frame. -/
theorem checksumTellsValidFrames : Obligations.ChecksumTellsValidFrames := by
  intro s t h
  rw [exec_checksum_eq] at h
  obtain rfl := Host.Outcome.next.inj h
  refine ⟨fun hlen => ?_, fun hlen => ?_, fun hlen => ?_⟩
  · have hslice : s.sliceLen = 0 := by rw [State.sliceLen, hlen]; rfl
    rw [State.setCks_cksResult, hslice]
    rfl
  · have hslice : s.sliceLen = 6 := by rw [State.sliceLen, hlen]; rfl
    rw [State.setCks_cksResult, hslice, cks6]
  · have hslice : s.sliceLen = 7 := min_eq_right hlen
    rw [State.setCks_cksResult, hslice, checksumTestIsTheSevenByteFold]

/-! ### DECODE -/

/-- A frame of any length but 7 is rejected for its length (R177, R179). -/
theorem exec_decode_of_length_ne {s : State} (hlen : s.rxLenIn ≠ 7) :
    exec .decode s = .next (s.decodeWrites .lengthError) := by
  rw [exec_decode_eq, State.received, dec_of_length_ne hlen]

/-- At length 7 DECODE makes the writes of the decoder's result at that length (R179). -/
theorem exec_decode_of_length_seven {s : State} {c : FrameClass} (hlen : s.rxLenIn = 7)
    (h : dec s.par.kaPreamble Config.frameLen s.inp.rxFrame = c) : exec .decode s = .next (s.decodeWrites c) := by
  rw [exec_decode_eq, State.received, hlen, ← h, Config.frameLen]

/-- Settles O25: each clause names one result of the decoder, and DECODE makes that result's writes. -/
theorem decodeFollowsTheFiveResults : Obligations.DecodeFollowsTheFiveResults := by
  refine ⟨rfl, fun s => ?_⟩
  simp only [← cks6_eq_xor_bytes]
  refine ⟨fun hlen => ?_, fun hlen hsum => ?_, fun hlen hsum h0 => ?_, fun hlen hsum h0 hk => ?_,
    fun hlen hsum h0 hk => ?_⟩
  · exact exec_decode_of_length_ne hlen
  · exact exec_decode_of_length_seven hlen (dec_of_checksum_ne hsum)
  · exact exec_decode_of_length_seven hlen (dec_of_status hsum h0)
  · exact exec_decode_of_length_seven hlen (dec_of_keepalive hsum h0 hk)
  · exact exec_decode_of_length_seven hlen (dec_of_unknown hsum h0 hk)

/-- Two of the eight codes name no result (R178). -/
theorem DecCode.toBits_ne (c : DecCode) : c.toBits ≠ 6#3 ∧ c.toBits ≠ 7#3 := by
  cases c <;> decide

/-- Settles O28: `dec_code_o` is the code of DEC_CODE's value. -/
theorem decodeResultCodes : Obligations.DecodeResultCodes :=
  fun s => ⟨fun h => congrArg DecCode.toBits h, fun h => congrArg DecCode.toBits h, fun h => congrArg DecCode.toBits h,
    fun h => congrArg DecCode.toBits h, fun h => congrArg DecCode.toBits h, fun h => congrArg DecCode.toBits h,
    DecCode.toBits_ne s.decCode⟩

end Machine

end Sys2Proof

/-!
PROOFS of the statements of spec/42_transmit_scheduler.md: the keepalive counter and its slot, a tick that completes at
its accepting edge and one that waits for its second read, and the interval of the Keepalives over a run.
-/

namespace Sys2Proof

/-- Counting on modulo `m`: the remainder restarts exactly where it would reach `m`. -/
theorem succ_mod_eq {m : Nat} (hm : 0 < m) (n : Nat) :
    (n + 1) % m = if m ≤ n % m + 1 then 0 else n % m + 1 := by
  have hlt := Nat.mod_lt n hm
  rw [← Nat.mod_add_mod]
  split
  next hle => rw [show n % m + 1 = m by omega, Nat.mod_self]
  next hnle => exact Nat.mod_eq_of_lt (by omega)

/-- The remainder of `n` would reach `m` at the next count exactly when `m` divides it. -/
theorem le_mod_add_one_iff {m : Nat} (hm : 0 < m) (n : Nat) : m ≤ n % m + 1 ↔ m ∣ n + 1 := by
  rw [Nat.dvd_iff_mod_eq_zero, succ_mod_eq hm]
  split <;> simp [*]

namespace Machine

/-! ### The keepalive counter and the keepalive slot -/

/-- A Keepalive is due when the counter reaches the interval (R202). -/
theorem State.kaDue_iff (s : State) : s.kaDue = true ↔ max s.kaIntervalIn 1 ≤ s.kaCnt + 1 := decide_eq_true_iff

/-- Settles O36, by the two outcomes of the counter's test. -/
theorem keepaliveCounterStep : Obligations.KeepaliveCounterStep := by
  refine fun s => ⟨fun hdue => ?_, fun hbelow => ?_⟩
  · rw [State.kaStep_eq, s.kaDue_iff.mpr hdue]
    rfl
  · have hnot : s.kaDue = false := by
      rw [← Bool.not_eq_true, s.kaDue_iff]
      omega
    rw [State.kaStep_eq, hnot]
    rfl

/-- The edge of the keepalive slot (R203): the Keepalive goes out and the tick ends. -/
theorem step_of_ttKa {s : State} (hl : s.par.legal = true) (hr : s.inp.rst = false) (hq : s.seq = .ttKa) :
    step s = .next ((s.returnStrobes.sendFrame (encK s.par.kaPreamble)).setSeq .idle).finishEdge := by
  have hslot : s.returnStrobes.sequencerStep = s.returnStrobes.keepaliveSlot := by
    rw [State.sequencerStep, State.returnStrobes_seq, hq]
  rw [step_of_busy hl hr (by simp [hq]), hslot, State.keepaliveSlot, State.returnStrobes_par]

/-- Settles O38: beside the slot's own writes only the strobe return, the expiry and the ports are left. -/
theorem keepaliveSlotSendsTheOwedFrame : Obligations.KeepaliveSlotSendsTheOwedFrame := by
  intro s hl hr hq
  rw [step_of_ttKa hl hr hq, State.finishEdge_eq, ← State.timedOut_or_expired]
  rfl

/-- No tick completes at a reset edge (R270). -/
theorem State.rst_of_completesTick {s : State} (hc : s.completesTick = true) : s.inp.rst = false := by
  obtain ⟨hr, -⟩ := Bool.and_eq_true_iff.mp hc
  simpa using hr

/-- Settles O40: the tick that enters the slot has put its Status frame on offer, and the slot sends the Keepalive. -/
theorem twoFramesInConsecutiveCycles : Obligations.TwoFramesInConsecutiveCycles := by
  intro s t u hc hst hq hr htu
  obtain ⟨hpar, -⟩ := ports_of_step hst
  obtain ⟨v, hw, rfl⟩ := EdgeWrites.of_step hst (State.rst_of_completesTick hc)
  obtain ⟨htx, hframe, -⟩ := hw.inv_slot (by simpa using hq)
  obtain ⟨hl, -⟩ := step_cases htu
  rw [step_of_ttKa hl hr hq, hpar] at htu
  rw [← Host.Outcome.next.inj htu]
  refine ⟨by simpa [State.outputs] using htx, ?_, by simpa [State.outputs] using hframe, ?_, ?_, ?_⟩
  · rw [State.outputs, State.ready, hq]
    rfl
  all_goals simp [State.outputs, State.ready]

/-! ### TX_TICK at its accepting edge -/

/-- The change test as one Boolean, in exact integers (R146). -/
theorem State.hcTest_eq (s : State) (k : BitVec 5) (x y : BitVec 10) :
    s.hcTest k x y =
      (!s.curValid || decide (s.curKeys ≠ k) ||
        decide (s.inp.thrX.toNat < ((x.toNat : Int) - s.curX.toNat).natAbs) ||
        decide (s.inp.thrY.toNat < ((y.toNat : Int) - s.curY.toNat).natAbs)) := by
  rw [Bool.eq_iff_iff, State.hcTest_iff]
  simp [or_assoc, eq_comm (a := k)]

/-- TX_TICK with a button pressed makes the first reads and waits (R200). -/
theorem exec_txTick_of_pressed {s : State} (hb : s.inp.btnRaw ≠ 0b11111#5) :
    exec .txTick s = .next ((s.setDbn s.firstReads).setSeq .ttWait) := by
  change execTxTick s = _
  rw [execTxTick_eq, if_neg hb]

/-- Settles O37: the first reads in both cases, and with no button pressed TT_COMPLETE of no keys. -/
theorem txTickAtItsAcceptingEdge : Obligations.TxTickAtItsAcceptingEdge := by
  refine fun s => ⟨fun hb => ⟨s.firstReads, exec_txTick_of_pressed hb, fun i => ?_⟩, fun hb => ?_⟩
  · rw [State.firstReads_get, Button.firstRead_eq]
    rfl
  · refine ⟨s.firstReads, fun i => ?_, ?_⟩
    · rw [State.firstReads_get, (State.rawLevel_all_iff s).mpr hb i, Button.firstRead_eq]
      rfl
    · rw [exec_txTick_of_released hb, State.ttComplete_eq, State.hcTest_setSampled, State.hcTest_setDbn,
        State.hcTest_eq]
      rfl

/-! ### What a completed tick writes -/

/-- `s.Ticked k t`: the edge from `s` to `t` completes a tick whose sample has the keys `k`, and these are the registers
it leaves (R201, R202). -/
structure State.Ticked (s : State) (k : BitVec 5) (t : State) : Prop where
  par : t.par = s.par
  sampledKeys : t.sampledKeys = k
  changed : t.changed = s.hcTest k s.inp.axisX s.inp.axisY
  curValid : t.curValid = (s.hcTest k s.inp.axisX s.inp.axisY || s.curValid)
  curKeys : t.curKeys = if s.hcTest k s.inp.axisX s.inp.axisY then k else s.curKeys
  curX : t.curX = if s.hcTest k s.inp.axisX s.inp.axisY then s.inp.axisX else s.curX
  curY : t.curY = if s.hcTest k s.inp.axisX s.inp.axisY then s.inp.axisY else s.curY
  kaCnt : t.kaCnt = if s.kaDue then 0 else s.kaCnt + 1
  txStb : t.txStb = (s.hcTest k s.inp.axisX s.inp.axisY || s.kaDue)
  frameOut : t.frameOut =
    if s.hcTest k s.inp.axisX s.inp.axisY then encS k s.inp.axisX s.inp.axisY
    else if s.kaDue then encK s.par.kaPreamble else s.frameOut
  seq : t.seq = if s.hcTest k s.inp.axisX s.inp.axisY && s.kaDue then .ttKa else .idle

/-- Every edge at which a tick completes writes these, with the keys of its sample: none with no button pressed, else those
of its second read (R200, R201). -/
theorem ticked_of_completesTick {s t : State} (h : step s = .next t) (hr : s.inp.rst = false)
    (hc : s.completesTick = true) :
    ∃ k, s.Ticked k t ∧ ((s.inp.btnRaw = 0b11111#5 ∧ k = 0#5) ∨ (s.seq = .ttWait ∧ k = s.secondReadKeys)) := by
  obtain ⟨d, k, rfl, hk⟩ := step_of_completesTick h hr hc
  refine ⟨k, ?_, hk⟩
  rw [State.finishEdge_eq, State.ttComplete_eq]
  exact ⟨rfl, rfl, rfl, rfl, rfl, rfl, rfl, rfl, by simp, rfl, rfl⟩

section
variable {s t : State} {k : BitVec 5}

/-- A tick that reports a change offers the Status frame of the sample it has just stored (R201). -/
theorem State.Ticked.status (h : s.Ticked k t) (hch : t.changed = true) :
    t.txStb = true ∧ t.frameOut = encS t.curKeys t.curX t.curY ∧ t.seq = if s.kaDue then .ttKa else .idle := by
  rw [h.changed] at hch
  simp [h.txStb, h.frameOut, h.curKeys, h.curX, h.curY, h.seq, hch]

/-- A tick that reports no change ends at once, and sends the Keepalive if one is due and else nothing (R201). -/
theorem State.Ticked.no_change (h : s.Ticked k t) (hch : t.changed = false) :
    t.txStb = s.kaDue ∧ t.frameOut = (if s.kaDue then encK t.par.kaPreamble else s.frameOut) ∧ t.seq = .idle := by
  rw [h.changed] at hch
  simp [h.txStb, h.frameOut, h.par, h.seq, hch]

end

/-! ### A tick from its first read to its last -/

/-- A TX_TICK accepted in `s₀` is in flight: its first read saw `b`, `c` cycles are left, and it has sent and stored
nothing (R142, R200). -/
structure State.TickWaits (s s₀ : State) (b : BitVec 5) (c : Nat) : Prop where
  seq : s.seq = .ttWait
  sample : s.SampledWith b c
  par : s.par = s₀.par
  txStb : s.txStb = false
  sampledKeys : s.sampledKeys = s₀.sampledKeys
  stored : s.SameStored s₀
  changed : s.changed = s₀.changed
  kaCnt : s.kaCnt = s₀.kaCnt
  frameOut : s.frameOut = s₀.frameOut

/-- An edge of a sample in flight that is not done only moves the debounce machines (R142). -/
theorem step_of_waiting {s t : State} (h : step s = .next t) (hr : s.inp.rst = false) (hs : s.sampling)
    (hd : s.sampleDone = false) : t = (s.returnStrobes.setDbn s.tickButtons).finishEdge := by
  obtain ⟨u, hw, rfl⟩ := EdgeWrites.of_step h hr
  cases hw with
  | waitOn => rfl
  | sampleEnds _ _ hd' => simp [hd] at hd'
  | tickEnds _ _ hd' => simp [hd] at hd'
  | slot hq => simp [State.sampling, hq] at hs
  | _ => exact absurd hs (State.not_sampling_of_idle ‹s.seq = .idle›)

/-- A TX_TICK accepted with a button pressed waits with DEBOUNCE_CYCLES left (R200). -/
theorem step_of_tickPressed {s t : State} (h : step s = .next t) (hr : s.inp.rst = false) (hq : s.seq = .idle)
    (hv : s.inp.opValid = true) (ho : s.inp.op = 0x7#4) (hb : s.inp.btnRaw ≠ 0b11111#5) :
    t.TickWaits s s.inp.btnRaw s.par.debounceCycles := by
  obtain ⟨hl, -⟩ := step_cases h
  have hi : s.offered = .txTick := congrArg decodeCommand ho
  rw [step_of_accepted hl hr hq hv, hi, exec_txTick_of_pressed (s := s.returnStrobes) hb] at h
  obtain rfl := Host.Outcome.next.inj h
  have hsample := (State.firstReads_sampledWith s).congr
    (u := ((s.returnStrobes.setDbn s.returnStrobes.firstReads).setSeq .ttWait).finishEdge) (by simp)
  refine ⟨?_, hsample, ?_, ?_, ?_, ⟨?_, ?_, ?_, ?_⟩, ?_, ?_, ?_⟩ <;> simp

section
variable {s s₀ t : State} {b : BitVec 5} {c : Nat}

/-- An edge with more than one cycle left takes one of them, and the tick waits on (R142). -/
theorem State.TickWaits.count_down (hw : s.TickWaits s₀ b c) (h : step s = .next t) (hr : s.inp.rst = false)
    (hb : b ≠ 0b11111#5) (hc : 1 < c) (hfit : c ≤ s₀.par.debounceCycles) : t.TickWaits s₀ b (c - 1) := by
  obtain rfl := step_of_waiting h hr (.inr hw.seq) (hw.sample.not_done hb hc)
  have hsample := (hw.sample.tick hc (hw.par ▸ hfit)).congr
    (u := (s.returnStrobes.setDbn s.tickButtons).finishEdge) (by simp)
  refine ⟨by simpa using hw.seq, hsample, by simpa using hw.par, by simp, by simpa using hw.sampledKeys,
    .trans (v := s) (.finishEdge ⟨rfl, rfl, rfl, rfl⟩) hw.stored, by simpa using hw.changed, by simpa using hw.kaCnt,
    by simpa using hw.frameOut⟩

/-- With one cycle left the tick completes, with the keys that both reads saw (R142, R201). -/
theorem State.TickWaits.ticked (hw : s.TickWaits s₀ b 1) (h : step s = .next t) (hr : s.inp.rst = false) :
    s.Ticked (~~~b &&& ~~~s.inp.btnRaw) t := by
  obtain ⟨k, ht, ⟨hb, rfl⟩ | ⟨-, rfl⟩⟩ :=
    ticked_of_completesTick h hr (State.completesTick_of_done hr hw.seq hw.sample.done)
  · simpa [hb] using ht
  · exact hw.sample.keys ▸ ht

end

/-- Over the cycles of a TX_TICK that waits the count runs down, and nothing is sent or stored (R142, R143). -/
theorem Runs.tick_waits {σ : Nat → State} {d : Nat} {b : BitVec 5} (hrun : Runs σ (d + 1))
    (hrst : ∀ k, k ≤ d → (σ k).inp.rst = false) (hb : b ≠ 0b11111#5) (hd : (σ 0).par.debounceCycles = d)
    (hfirst : (σ 1).TickWaits (σ 0) b d) :
    ∀ k, 1 ≤ k → k ≤ d → (σ k).TickWaits (σ 0) b (d + 1 - k) := by
  intro k hk1
  induction k, hk1 using Nat.le_induction with
  | base => exact fun _ => hfirst
  | succ k hk1 ih =>
    intro hkd
    have hnext := (ih (by omega)).count_down (hrun k (by omega)) (hrst k (by omega)) hb (by omega) (by omega)
    rwa [show d + 1 - k - 1 = d + 1 - (k + 1) by omega] at hnext

/-- Settles O39: the accepting edge starts the wait, the edges between count it down, the last completes the tick. -/
theorem txTickWithAPressCompletesLater : Obligations.TxTickWithAPressCompletesLater := by
  intro σ d hd hrun hrst hq hv ho hb
  have hstep0 := hrun 0 (by omega)
  obtain ⟨hl0, -⟩ := step_cases hstep0
  obtain ⟨-, hd1, -⟩ := (Params.legal_iff _).mp hl0
  have hfirst := step_of_tickPressed hstep0 (hrst 0 (by omega)) hq hv ho hb
  have hwaits := hrun.tick_waits hrst hb hd (hd ▸ hfirst)
  have hlast := hwaits d (by omega) le_rfl
  rw [Nat.add_sub_cancel_left] at hlast
  have ht := hlast.ticked (hrun d (by omega)) (hrst d le_rfl)
  refine ⟨fun k hk1 hkd => ?_, ht.sampledKeys, ht.changed, hlast.stored.valid ▸ ht.curValid,
    hlast.stored.keys ▸ ht.curKeys, hlast.stored.x ▸ ht.curX, hlast.stored.y ▸ ht.curY, hlast.kaCnt ▸ ht.kaCnt,
    ht.txStb, ht.par ▸ hlast.frameOut ▸ ht.frameOut, ht.seq⟩
  have hw := hwaits k hk1 hkd
  exact ⟨by simp [State.outputs, State.ready, hw.seq], hw.txStb, hw.sampledKeys, hw.stored.valid, hw.stored.keys,
    hw.stored.x, hw.stored.y, hw.changed, hw.kaCnt, hw.frameOut⟩

/-! ### Keepalives over a run -/

/-- With the interval `iv` and the counter at the ticks so far modulo `iv`, a Keepalive is due exactly at the ticks `iv`
divides (R205). -/
theorem State.kaDue_iff_dvd {s : State} {iv n : Nat} (hiv : max s.kaIntervalIn 1 = iv) (hcnt : s.kaCnt = n % iv) :
    s.kaDue = true ↔ iv ∣ n + 1 := by
  rw [State.kaDue_iff, hiv, hcnt, le_mod_add_one_iff (by omega)]

/-- From a cleared counter and with a constant interval KA_CNT counts the completed ticks modulo the interval, whatever else
runs (R202, R205). -/
theorem Runs.kaCnt_eq {σ : Nat → State} {n iv : Nat} (hrun : Runs σ n) (hrst : ∀ k, k < n → (σ k).inp.rst = false)
    (hiv : ∀ k, k < n → max (σ k).kaIntervalIn 1 = iv) (h0 : (σ 0).kaCnt = 0) :
    ∀ k, k ≤ n → (σ k).kaCnt = ticksDone σ k % iv := by
  intro k
  induction k with
  | zero => exact fun _ => by rw [h0, ticksDone, Nat.zero_mod]
  | succ k ih =>
    intro hk
    have hcnt := ih (by omega)
    have hpos : 0 < iv := hiv k hk ▸ lt_max_of_lt_right Nat.one_pos
    rw [ticksDone]
    cases hc : (σ k).completesTick with
    | true =>
      obtain ⟨keys, ht, -⟩ := ticked_of_completesTick (hrun k hk) (hrst k hk) hc
      rw [ht.kaCnt, if_pos rfl, succ_mod_eq hpos, ← hcnt]
      simp only [State.kaDue_iff, hiv k hk]
    | false =>
      obtain ⟨u, hw, hu⟩ := EdgeWrites.of_step (hrun k hk) (hrst k hk)
      rw [hu, State.finishEdge_kaCnt, hw.kaCnt_unchanged (hrst k hk) hc, hcnt]
      rfl

/-- Settles O41: KA_CNT counts the ticks modulo the interval, so a Keepalive is due exactly at its multiples; what the tick
sends follows from that and from its change test. -/
theorem keepaliveEveryIntervalTicks : Obligations.KeepaliveEveryIntervalTicks := by
  intro σ n iv hrun hrst hiv h0 k hk hc
  obtain ⟨keys, ht, -⟩ := ticked_of_completesTick (hrun k hk) (hrst k hk) hc
  have hdue := State.kaDue_iff_dvd (hiv k hk) (hrun.kaCnt_eq hrst hiv h0 k hk.le)
  have hnotdue (hn : ¬ iv ∣ ticksDone σ k + 1) : (σ k).kaDue = false := Bool.eq_false_iff.mpr (hdue.not.mpr hn)
  dsimp only
  cases hch : (σ (k + 1)).changed with
  | true =>
    obtain ⟨htx, hframe, hseq⟩ := ht.status hch
    refine ⟨fun h => ⟨htx, nofun, fun _ => ⟨hframe, ?_⟩⟩, fun h => ⟨?_, nofun, fun _ => ⟨htx, hframe⟩⟩⟩
    · rw [hseq, hdue.mpr h, if_pos rfl]
    · simp [hseq, hnotdue h]
  | false =>
    obtain ⟨htx, hframe, hseq⟩ := ht.no_change hch
    refine ⟨fun h => ⟨?_, fun _ => ⟨?_, hseq⟩, nofun⟩, fun h => ⟨hseq, fun _ => ⟨?_, ?_⟩, nofun⟩⟩
    · rw [htx, hdue.mpr h]
    · rw [hframe, hdue.mpr h, if_pos rfl]
    · rw [htx, hnotdue h]
    · simp [hframe, hnotdue h]

end Machine

end Sys2Proof

/-!
PROOFS of the statements of spec/43_link_supervisor.md: the comparator and its age DELTA, the edges that refresh the
supervisor, the expiry, and what the two together tell about unbounded time.
-/

namespace Sys2Proof

/-- The decoder finds a frame good exactly when all its checks pass: length, checksum, known preamble (R177). -/
theorem dec_good_iff {kaPre : Byte} {len : Nat} {f : Frame} :
    (dec kaPre len f).good = true ↔
      len = 7 ∧ cks6 f = byteOf f 6 ∧ (byteOf f 0 = 0xAA#8 ∨ byteOf f 0 = kaPre) := by
  unfold dec
  split_ifs with hlen hsum hst hka
  · simp [FrameClass.good, show len ≠ 7 from hlen]
  · simp [FrameClass.good, hsum]
  · simp [FrameClass.good, show len = 7 from not_not.mp hlen, not_not.mp hsum, show byteOf f 0 = 0xAA#8 from hst]
  · simp [FrameClass.good, show len = 7 from not_not.mp hlen, not_not.mp hsum, hka]
  · simp [FrameClass.good, show byteOf f 0 ≠ 0xAA#8 from hst, hka]

/-- DECODE has one code (R101). -/
theorem decodeCommand_eq_decode_iff : ∀ op : BitVec 4, decodeCommand op = .decode ↔ op = 0x5#4 := by decide

namespace Machine

/-! ### DELTA and the comparator -/

/-- Settles O43: `2^T_W`, added before the subtraction so that it cannot borrow, is 0 modulo itself. -/
theorem deltaIsTheModularDifference : Obligations.DeltaIsTheModularDifference := by
  intro s t hfit
  have hborrow : s.lastSeen ≤ t + 2 ^ s.par.tW := by omega
  rw [State.delta, subMod, trunc, Int.natCast_emod, Nat.cast_sub hborrow, Nat.cast_add, add_sub_right_comm]
  push_cast
  exact Int.add_emod_right ..

/-- Settles O44: `alive_o` is the comparator, and IS_ALIVE is one write of it. -/
theorem isAliveCapturesTheComparator : Obligations.IsAliveCapturesTheComparator :=
  ⟨rfl, fun _ => ⟨rfl, rfl⟩⟩

/-- Before the first good frame the comparator is 0 (R226). -/
theorem State.comparator_of_unseen {s : State} (hs : s.seen = false) : s.comparator = false := by
  rw [State.comparator, hs, Bool.false_and, Bool.false_and]

/-- Settles O47: SEEN = 0 holds the comparator at 0, and IS_ALIVE writes the comparator. -/
theorem notAliveBeforeTheFirstGoodFrame : Obligations.NotAliveBeforeTheFirstGoodFrame := by
  intro s hs
  have hdead : s.outputs.alive = false := State.comparator_of_unseen hs
  obtain ⟨-, hexec⟩ := isAliveCapturesTheComparator.2 s
  exact ⟨hdead, hdead ▸ hexec⟩

/-! ### What an edge does to the supervisor -/

/-- REFRESH runs when an idle block out of reset accepts the code of DECODE with a good frame received (R222). -/
theorem State.refreshes_iff (s : State) :
    s.refreshes = true ↔
      s.inp.rst = false ∧ s.seq = .idle ∧ s.inp.opValid = true ∧ s.inp.op = 0x5#4 ∧ s.rxLenIn = 7 ∧
        cks6 s.inp.rxFrame = byteOf s.inp.rxFrame 6 ∧
        (byteOf s.inp.rxFrame 0 = 0xAA#8 ∨ byteOf s.inp.rxFrame 0 = s.par.kaPreamble) := by
  simp only [State.refreshes, State.accepted, State.offered, State.received, Bool.and_eq_true, beq_iff_eq, dec_good_iff,
    Option.ite_none_right_eq_some, Option.some.injEq, decodeCommand_eq_decode_iff, and_assoc]

/-- A reset edge forgets every good frame (R59, R270). -/
theorem seen_of_reset {s t : State} (h : step s = .next t) (hr : s.inp.rst = true) : t.seen = false := by
  obtain ⟨hl, -⟩ := step_cases h
  rw [step_of_reset hl hr] at h
  obtain rfl := Host.Outcome.next.inj h
  rfl

/-- The writes of an edge at which REFRESH runs include it, so the expiry that follows does nothing (R222, R223). -/
theorem EdgeWrites.liveness_refreshed {s u : State} (h : EdgeWrites s u) (hf : s.refreshes = true) :
    u.seen = true ∧ u.lastSeen = s.nowIn ∧ u.expired = false ∧ u.timedOut = false := by
  obtain ⟨ha, hgood⟩ : s.accepted = some .decode ∧ s.received.good = true := by simpa [State.refreshes] using hf
  cases h with
  | decodeStatus => exact ⟨rfl, rfl, rfl, State.timedOut_refresh _⟩
  | decodeKeepalive => exact ⟨rfl, rfl, rfl, State.timedOut_refresh _⟩
  | decodeRejected _ _ hbad => simp [hgood] at hbad
  | reserved _ i hi hres =>
    obtain rfl : i = .decode := by simpa [ha] using hi.symm
    cases hres
  | _ => simp [‹s.accepted = _›] at ha

/-- An edge at which REFRESH runs: the time of this good frame, not expired (R222, R223). -/
theorem liveness_of_refresh {s t : State} (h : step s = .next t) (hf : s.refreshes = true) :
    t.seen = true ∧ t.lastSeen = s.nowIn ∧ t.expired = false := by
  obtain ⟨hr, -⟩ := s.refreshes_iff.mp hf
  obtain ⟨u, hw, rfl⟩ := EdgeWrites.of_step h hr
  obtain ⟨hseen, hlast, hexp, hout⟩ := hw.liveness_refreshed hf
  simp [hseen, hlast, hexp, hout]

/-- Any other edge but a reset edge keeps the last good frame, and only the expiry can act (R222, R223). -/
theorem liveness_of_no_refresh {s t : State} (h : step s = .next t) (hr : s.inp.rst = false)
    (hf : s.refreshes = false) :
    t.seen = s.seen ∧ t.lastSeen = s.lastSeen ∧ t.expired = (s.timedOut || s.expired) := by
  obtain ⟨u, hw, rfl⟩ := EdgeWrites.of_step h hr
  obtain ⟨hseen, hlast, hexp⟩ := hw.liveness_unchanged hf
  simp [hseen, hlast, hexp, hw.timedOut_eq hf]

/-- Settles O45: the accepted DECODE of a good frame is the edge at which REFRESH runs. -/
theorem onlyGoodFramesRefresh : Obligations.OnlyGoodFramesRefresh := by
  intro s t h hr
  dsimp only
  refine ⟨fun hgood => ?_, fun hbad => ?_⟩
  · exact liveness_of_refresh h (s.refreshes_iff.mpr ⟨hr, hgood⟩)
  · have hf : s.refreshes = false := by
      rw [← Bool.not_eq_true, s.refreshes_iff]
      exact fun ⟨_, hgood⟩ => hbad hgood
    obtain ⟨hseen, hlast, -⟩ := liveness_of_no_refresh h hr hf
    exact ⟨hseen, hlast⟩

/-- Settles O46, by whether REFRESH runs; without it the expiry's condition is the one before the edge. -/
theorem expiryAtEveryEdge : Obligations.ExpiryAtEveryEdge := by
  intro s t h hr
  cases hf : s.refreshes with
  | true =>
    obtain ⟨-, -, hexp⟩ := liveness_of_refresh h hf
    exact hexp
  | false =>
    obtain ⟨-, -, hexp⟩ := liveness_of_no_refresh h hr hf
    rw [hexp, ← State.timedOut]
    cases s.timedOut <;> rfl

/-! ### The supervisor on unbounded time -/

/-- The supervisor at the unbounded time `t`, the last good frame having come at the unbounded time `g`. With EXPIRED = 1
the age is past the timeout; while EXPIRED = 0 it still fits T_W bits, so that DELTA is the age (R225). -/
structure State.SeenAt (s : State) (timeout g t : Nat) : Prop where
  seen : s.seen = true
  lastSeen : s.lastSeen = g % 2 ^ s.par.tW
  le : g ≤ t
  expired : s.expired = true → timeout < t - g
  fits : s.expired = false → t - g < 2 ^ s.par.tW

/-- The supervisor at the unbounded time `t`, given the unbounded time of the last good frame, if there was one. -/
inductive State.Follows (s : State) (timeout t : Nat) : Option Nat → Prop where
  | unseen (h : s.seen = false) : s.Follows timeout t none
  | seenAt (g : Nat) (h : s.SeenAt timeout g t) : s.Follows timeout t (some g)

section
variable {s s' : State} {timeout g t t' : Nat}

/-- DELTA is the age of the last good frame, as long as that fits T_W bits (R220). -/
theorem State.delta_eq_age (hlast : s.lastSeen = g % 2 ^ s.par.tW) (hnow : s.nowIn = t % 2 ^ s.par.tW) (hle : g ≤ t)
    (hfit : t - g < 2 ^ s.par.tW) : s.delta s.nowIn = t - g := by
  have hdelta := deltaIsTheModularDifference s s.nowIn (hlast ▸ Nat.mod_lt _ (Nat.two_pow_pos _))
  rw [hlast, hnow] at hdelta
  push_cast at hdelta
  rw [← Int.sub_emod, ← Nat.cast_sub hle] at hdelta
  rw [hnow, ← Nat.mod_eq_of_lt hfit]
  exact_mod_cast hdelta

/-- The comparator compares the age of the last good frame with the timeout (R225). -/
theorem State.SeenAt.comparator_iff (h : s.SeenAt timeout g t) (hnow : s.nowIn = t % 2 ^ s.par.tW)
    (hto : s.timeoutIn = timeout) : s.comparator = true ↔ t - g ≤ timeout := by
  cases hexp : s.expired with
  | true => exact iff_of_false (by simp [State.comparator, hexp]) (Nat.not_le.mpr (h.expired hexp))
  | false =>
    simp [State.comparator, h.seen, hexp, hto, State.delta_eq_age h.lastSeen hnow h.le (h.fits hexp)]

/-- The expiry strikes exactly when the age is past the timeout (R223). -/
theorem State.SeenAt.timedOut_or_expired_iff (h : s.SeenAt timeout g t) (hnow : s.nowIn = t % 2 ^ s.par.tW)
    (hto : s.timeoutIn = timeout) : (s.timedOut || s.expired) = true ↔ timeout < t - g := by
  cases hexp : s.expired with
  | true => simp [h.expired hexp]
  | false =>
    simp [State.timedOut, h.seen, hexp, hto, State.delta_eq_age h.lastSeen hnow h.le (h.fits hexp)]

/-- An edge that refreshes starts a new age, no older than the time to the next cycle (R222). -/
theorem State.SeenAt.of_refresh (h : step s = .next s') (hf : s.refreshes = true) (hnow : s.nowIn = t % 2 ^ s.par.tW)
    (hle : t ≤ t') (hfit : t' - t < 2 ^ s.par.tW) : s'.SeenAt timeout t t' := by
  obtain ⟨hpar, -⟩ := ports_of_step h
  obtain ⟨hseen, hlast, hexp⟩ := liveness_of_refresh h hf
  exact ⟨hseen, by rw [hlast, hnow, hpar], hle, by simp [hexp], fun _ => hpar ▸ hfit⟩

/-- At any other edge but a reset edge the age grows: past the timeout it has expired, and else it still fits T_W bits, by
the step bound (R223, R278). -/
theorem State.SeenAt.of_no_refresh (hs : s.SeenAt timeout g t) (h : step s = .next s') (hr : s.inp.rst = false)
    (hf : s.refreshes = false) (hnow : s.nowIn = t % 2 ^ s.par.tW) (hto : s.timeoutIn = timeout) (hle : t ≤ t')
    (hbound : timeout + (t' - t) < 2 ^ s.par.tW) : s'.SeenAt timeout g t' := by
  obtain ⟨hpar, -⟩ := ports_of_step h
  obtain ⟨hseen, hlast, hexp⟩ := liveness_of_no_refresh h hr hf
  have hage := hs.timedOut_or_expired_iff hnow hto
  have hgt := hs.le
  rw [← hexp] at hage
  refine ⟨hseen.trans hs.seen, by rw [hlast, hpar, hs.lastSeen], hgt.trans hle, fun he => ?_, fun he => ?_⟩
  · have hold := hage.mp he
    omega
  · have hyoung : ¬ timeout < t - g := by simp [← hage, he]
    rw [hpar]
    omega

/-- `alive_o` is 1 exactly when there was a good frame and its age is at most the timeout (R225, R226). -/
theorem State.Follows.alive_iff {last : Option Nat} (h : s.Follows timeout t last)
    (hnow : s.nowIn = t % 2 ^ s.par.tW) (hto : s.timeoutIn = timeout) :
    s.outputs.alive = true ↔ ∃ g, last = some g ∧ t - g ≤ timeout := by
  change s.comparator = true ↔ _
  cases h with
  | unseen hs => simp [State.comparator_of_unseen hs]
  | seenAt g hs => simp [hs.comparator_iff hnow hto]

/-- Every edge within the step bound keeps the supervisor on the last good frame (R222, R223, R270). -/
theorem State.Follows.step {last : Option Nat} (hs : s.Follows timeout t last) (h : step s = .next s')
    (hnow : s.nowIn = t % 2 ^ s.par.tW) (hto : s.timeoutIn = timeout) (hle : t ≤ t')
    (hbound : timeout + (t' - t) < 2 ^ s.par.tW) :
    s'.Follows timeout t' (if s.inp.rst then none else if s.refreshes then some t else last) := by
  cases hr : s.inp.rst with
  | true => exact .unseen (seen_of_reset h hr)
  | false =>
    cases hf : s.refreshes with
    | true => exact .seenAt t (.of_refresh h hf hnow hle (by omega))
    | false =>
      cases hs with
      | unseen hu =>
        obtain ⟨hseen, -⟩ := liveness_of_no_refresh h hr hf
        exact .unseen (hseen.trans hu)
      | seenAt g hg => exact .seenAt g (hg.of_no_refresh h hr hf hnow hto hle hbound)

end

section
variable {σ : Nat → State} {n timeout : Nat} {time : Nat → Nat}

/-- The build is the same in every cycle of a run (log 1). -/
theorem Runs.par_eq (hrun : Runs σ n) : ∀ k, k ≤ n → (σ k).par = (σ 0).par := by
  intro k
  induction k with
  | zero => exact fun _ => rfl
  | succ k ih =>
    intro hk
    obtain ⟨hpar, -⟩ := ports_of_step (hrun k hk)
    exact hpar.trans (ih (by omega))

/-- In every cycle of a run within the step bound the supervisor is on the last good frame. -/
theorem Runs.follows (hrun : Runs σ n) (h0 : (σ 0).seen = false)
    (hports : ∀ k, k ≤ n → (σ k).nowIn = time k % 2 ^ (σ 0).par.tW ∧ (σ k).timeoutIn = timeout)
    (htime : ∀ k, k < n → time k ≤ time (k + 1) ∧ timeout + (time (k + 1) - time k) < 2 ^ (σ 0).par.tW) :
    ∀ k, k ≤ n → (σ k).Follows timeout (time k) ((lastGood σ k).map time) := by
  intro k
  induction k with
  | zero => exact fun _ => .unseen h0
  | succ k ih =>
    intro hk
    obtain ⟨hnow, hto⟩ := hports k (by omega)
    obtain ⟨hle, hbound⟩ := htime k hk
    rw [← hrun.par_eq k (by omega)] at hnow hbound
    have hnext := (ih (by omega)).step (hrun k hk) hnow hto hle hbound
    rw [lastGood, apply_ite (Option.map time), apply_ite (Option.map time)]
    exact hnext

end

/-- Settles O48: the supervisor is on the last good frame in every cycle, and there `alive_o` compares its age. -/
theorem aliveIsExactOnUnboundedTime : Obligations.AliveIsExactOnUnboundedTime := by
  intro σ n time timeout hrun h0 hports htime k hk
  obtain ⟨hnow, hto⟩ := hports k hk
  rw [← hrun.par_eq k hk] at hnow
  rw [(hrun.follows h0 hports htime k hk).alive_iff hnow hto]
  simp only [Option.map_eq_some_iff, exists_exists_and_eq_and]

end Machine

end Sys2Proof

/-!
PROOFS of the statements of spec/60_exceptions.md: ILLEGAL_STB is the one trace a reserved code leaves, for one cycle.
-/

namespace Sys2Proof

namespace Machine

/-- A reserved instruction is accepted when an idle block out of reset is offered a code from 0x9 on (R102, R103). -/
theorem State.accepted_reserved_iff (s : State) :
    (∃ i, s.accepted = some i ∧ i.isReserved = true) ↔
      s.inp.rst = false ∧ s.seq = .idle ∧ s.inp.opValid = true ∧ 9 ≤ s.inp.op.toNat := by
  simp only [State.accepted, Option.ite_none_right_eq_some, Option.some.injEq, and_assoc, exists_and_left,
    exists_eq_left', State.offered, decodeCommand_isReserved_iff]

/-- A reset edge clears ILLEGAL_STB (R59, R270). -/
theorem illegalStb_of_reset {s t : State} (h : step s = .next t) (hr : s.inp.rst = true) : t.illegalStb = false := by
  obtain ⟨hl, -⟩ := step_cases h
  rw [step_of_reset hl hr] at h
  obtain rfl := Host.Outcome.next.inj h
  rfl

/-- The edge that accepts a code from 0x9 on raises ILLEGAL_STB (R103, R242). -/
theorem illegalStb_of_reserved {s t : State} (h : step s = .next t) (hr : s.inp.rst = false) (hq : s.seq = .idle)
    (hv : s.inp.opValid = true) (ho : 9 ≤ s.inp.op.toNat) : t.illegalStb = true := by
  obtain ⟨hl, -⟩ := step_cases h
  rw [step_of_reserved hl hr hq hv ho] at h
  obtain rfl := Host.Outcome.next.inj h
  rfl

/-- Settles O15: a reset edge clears the strobe; at any other edge its only writer is an accepted reserved code. -/
theorem illegalStrobeMarksReservedCodes : Obligations.IllegalStrobeMarksReservedCodes := by
  intro s t h
  refine ⟨fun hstb => ?_, fun ⟨hr, hq, hv, ho⟩ => illegalStb_of_reserved h hr hq hv ho⟩
  rw [← s.accepted_reserved_iff]
  by_contra hnone
  have hclear : t.illegalStb = false := by
    cases hr : s.inp.rst with
    | true => exact illegalStb_of_reset h hr
    | false =>
      obtain ⟨u, hw, rfl⟩ := EdgeWrites.of_step h hr
      rw [State.finishEdge_illegalStb]
      exact hw.illegalStb_false (by simpa using hnone)
  simp [hclear] at hstb

end Machine

end Sys2Proof

/-!
PROOFS of the statements of spec/70_reset_and_hazards.md: a Keepalive of another build is an unknown frame, and the
outputs right after a reset edge.
-/

namespace Sys2Proof

/-- A build reads another build's Keepalive as an unknown frame: its checksum is valid, its preamble is not known (R280). -/
theorem dec_encK_of_other_preamble {kaPre p : Byte} (hst : p ≠ Config.stPreamble) (hka : p ≠ kaPre) :
    dec kaPre Config.frameLen (encK p) = .unknownFrameType := by
  have h0 : byteOf (encK p) 0 = p := byteOf_sealFrame_0 ..
  exact dec_of_unknown (cks6_sealFrame ..) (by rwa [h0]) (by rwa [h0])

namespace Machine

/-! ### Another build's Keepalive -/

/-- Settles O34: the decoder's result is the unknown frame, for which DECODE writes DEC_CODE alone. -/
theorem otherPreambleIsUnknown : Obligations.OtherPreambleIsUnknown := by
  intro s p hst hka hlen hframe
  have hdec : dec s.par.kaPreamble Config.frameLen s.inp.rxFrame = .unknownFrameType := by
    rw [hframe]
    exact dec_encK_of_other_preamble hst hka
  exact exec_decode_of_length_seven hlen hdec

/-! ### The cycle after a reset edge -/

/-- What a reset edge leaves, on whatever build it answers (R270). -/
theorem eq_of_step_of_reset {s t : State} (hr : s.inp.rst = true) (h : step s = .next t) :
    t = s.resetRegisters.advancePorts := by
  obtain ⟨hl, -⟩ := step_cases h
  rw [step_of_reset hl hr] at h
  exact (Host.Outcome.next.inj h).symm

/-- Settles O13: four of the outputs are registers at their reset values; `alive_o` reads ports too, but SEEN = 0 holds it
at 0 whatever they are (R226). -/
theorem outputsAfterReset : Obligations.OutputsAfterReset := by
  intro s t hr h
  obtain rfl := eq_of_step_of_reset hr h
  obtain ⟨hdead, -⟩ := notAliveBeforeTheFirstGoodFrame s.resetRegisters.advancePorts rfl
  exact ⟨rfl, rfl, rfl, hdead, rfl⟩

end Machine

end Sys2Proof
